-- ==== Sys2Proof/Word.lean ====
section
/-! DEFINITION. The machine word (00_scope.md R6, R7). -/

namespace Sys2Proof

/-- A word is a 16-bit bit vector (R7). `uint(v)` is `v.toNat`, `sint(v)` is `v.toInt`;
`+`, `-` and negation of `BitVec 16` are modulo 2^16. Bit `i` of `v` is `v.getLsbD i` (R6). -/
abbrev Word := BitVec 16

/-- A byte of a load file (70_reset_and_hazards.md R253). The machine itself has no bytes
(20_memory.md R50). -/
abbrev Byte := BitVec 8

end Sys2Proof
end

