-- ==== Sys2Proof/Config.lean ====
section
/-! DEFINITION. The kinds of the parameters of 00_scope.md R5. The values this hardware gives
them stand in Sys2Proof/Machine/Params.lean and Sys2Proof/Machine/MemoryMap.lean. -/

namespace Sys2Proof

/-- JUMP_TARGET_SOURCE (43_c_dest_jump.md R193): which A a taken jump reads. -/
inductive JumpTargetSource
  /-- the A value before the instruction -/
  | preA
  /-- the A value the instruction's A destination has just written -/
  | postA
  deriving DecidableEq, Repr

/-- RESET_RAM (70_reset_and_hazards.md R250; 92_eei_decisions.md D13): what reset does to RAM and
SCREEN. The spec names the value ZERO; `keep` is the behaviour D13 says a differing
implementation would have. -/
inductive ResetRam
  | zero
  | keep
  deriving DecidableEq, Repr

/-- BINARY_FORMAT (70_reset_and_hazards.md R253; 92_eei_decisions.md D17), OPEN: how the
raw-binary load format spells a 16-bit word. It is an argument of the loader. -/
inductive BinaryFormat
  | bigEndianBytes
  | littleEndianBytes
  | textLines
  deriving DecidableEq, Repr

/-- The operand-source bit `a` of a C-instruction (30_encoding.md R72): 0 selects A, 1 selects M. -/
inductive Operand
  | a
  | m
  deriving DecidableEq, Repr

/-- The 6-bit function code of a C-instruction, as the ALU control bits it consists of, high to low
(30_encoding.md R72). -/
structure Ctl where
  zx : Bool
  nx : Bool
  zy : Bool
  ny : Bool
  f  : Bool
  no : Bool
  deriving DecidableEq, Repr

/-- The parameters a model takes (00_scope.md R5), less the open BINARY_FORMAT and the sizes.
`aluNoncanonical` is the total function of `(a, c, D, y)` that 92_eei_decisions.md D9 names. -/
structure Params where
  jumpTargetSource : JumpTargetSource
  haltIdiom        : Bool
  resetRam         : ResetRam
  aluNoncanonical  : Operand → Ctl → Word → Word → Word

end Sys2Proof
end

