-- ==== Sys2Proof/Machine/MemoryMap.lean ====
section
/-! DEFINITION. The sizes and base addresses of 00_scope.md R5 and the data address decoder of
20_memory.md R42 (log entry 4). -/

namespace Sys2Proof.Machine

/-- RAM_WORDS; RAM_BASE is 0. -/
def ramWords : Nat := 16384

/-- SCREEN_BASE. -/
def screenBase : Nat := 16384

/-- SCREEN_WORDS. -/
def screenWords : Nat := 8192

/-- KBD_ADDR. -/
def kbdAddr : Nat := 24576

/-- The number of data addresses, 2^DATA_ADDR_BITS (20_memory.md R41). -/
def dataAddresses : Nat := 32768

/-- ROM_MAX (log entry 14). -/
def romMax : Nat := 32768

/-- SCREEN_WORDS_PER_ROW, which only the renderer's reading uses (20_memory.md R46). -/
def screenWordsPerRow : Nat := 32

/-- SCREEN_ROWS, which only the renderer's reading uses (20_memory.md R46). -/
def screenRows : Nat := 256

/-- The rows of the data address decoder (20_memory.md R42). -/
inductive Region
  | ram
  | screen
  | kbd
  /-- inside the 15-bit space, no region -/
  | unmapped
  /-- outside the 15-bit space -/
  | outOfRange
  deriving DecidableEq, Repr

/-- `region(addr)` of 20_memory.md R42. -/
def region (addr : Nat) : Region :=
  if addr < ramWords then .ram
  else if addr < screenBase + screenWords then .screen
  else if addr = kbdAddr then .kbd
  else if addr < dataAddresses then .unmapped
  else .outOfRange

end Sys2Proof.Machine
end

