-- ==== Sys2Proof/Machine/Alu.lean ====
section
/-! DEFINITION. The ALU (42_c_alu.md R131). -/

namespace Sys2Proof.Machine

/-- `ALU(c, x, y)`: the control-bit formula of R131. -/
def alu (c : Ctl) (x y : Word) : Word :=
  let x1 := if c.zx then 0x0000 else x
  let x2 := if c.nx then ~~~x1 else x1
  let y1 := if c.zy then 0x0000 else y
  let y2 := if c.ny then ~~~y1 else y1
  let o  := if c.f then x2 + y2 else x2 &&& y2
  if c.no then ~~~o else o

/-- The 18 canonical function codes (30_encoding.md R77), in the source's order. -/
def canonicalCodes : List Ctl :=
  [⟨true, false, true, false, true, false⟩,
   ⟨true, true, true, true, true, true⟩,
   ⟨true, true, true, false, true, false⟩,
   ⟨false, false, true, true, false, false⟩,
   ⟨true, true, false, false, false, false⟩,
   ⟨false, false, true, true, false, true⟩,
   ⟨true, true, false, false, false, true⟩,
   ⟨false, false, true, true, true, true⟩,
   ⟨true, true, false, false, true, true⟩,
   ⟨false, true, true, true, true, true⟩,
   ⟨true, true, false, true, true, true⟩,
   ⟨false, false, true, true, true, false⟩,
   ⟨true, true, false, false, true, false⟩,
   ⟨false, false, false, false, true, false⟩,
   ⟨false, true, false, false, true, true⟩,
   ⟨false, false, false, true, true, true⟩,
   ⟨false, false, false, false, false, false⟩,
   ⟨false, true, false, true, false, true⟩]

/-- The ALU with ALU_NONCANONICAL as a parameter (R131, R162): the formula on the canonical codes,
the parameter's function on the other 46. -/
def aluResult (p : Params) (src : Operand) (c : Ctl) (x y : Word) : Word :=
  if c ∈ canonicalCodes then alu c x y else p.aluNoncanonical src c x y

end Sys2Proof.Machine
end

