-- ==== Sys2Proof/Machine/Params.lean ====
section
/-! DEFINITION. The values this hardware gives its parameters (00_scope.md R5). -/

namespace Sys2Proof.Machine

/-- JUMP_TARGET_SOURCE = PRE_A (log entry 6), HALT_IDIOM = false (entry 8), RESET_RAM = ZERO
(entry 16), ALU_NONCANONICAL = the control-bit formula (entry 7). -/
def params : Params where
  jumpTargetSource := .preA
  haltIdiom := false
  resetRam := .zero
  aluNoncanonical := fun _ c x y => alu c x y

end Sys2Proof.Machine
end

