-- ==== Sys2Proof/Machine/State.lean ====
section
/-! DEFINITION. The architectural state (10_state.md R20) as plain data, its reset value, and the
reasons a step can stop. -/

namespace Sys2Proof.Machine

/-- A memory of words as the list of its words that are not 0, by word address (log entries 2
and 3). The smallest unit the machine addresses is the 16-bit word (20_memory.md R50). -/
abbrev Memory := List (Nat × Word)

/-- The fault kinds with the information each records (60_exceptions.md R212). Each is safe: the
model stops where the source forbids the access, and the machine has no behaviour there. -/
inductive Fault
  /-- code 1, raised by the fetch of any step when `uint(PC) >= ROM_LEN`; safe (log entry 14) -/
  | fetchOutOfRange (pc : Word)
  /-- code 2, raised by a C-instruction with `a = 1` when A is not a mapped address; safe (log
  entry 9) -/
  | readOutOfRange (addr : Nat)
  /-- code 3, raised by a C-instruction with the M destination when A is not a mapped address;
  safe (log entry 9) -/
  | writeOutOfRange (addr : Nat)
  deriving DecidableEq, Repr

/-- Why the model gives an instruction no meaning. -/
inductive Refusal
  /-- raised by an arm of `exec` whose instruction has no meaning; every arm has one, so nothing
  raises it; safe -/
  | notModelled (mnemonic : String)
  deriving DecidableEq, Repr

/-- The tuple `(A, D, PC, RAM, SCREEN, KBD, ROM, fault)` of R20. `ram` is keyed by the data address,
`screen` by the data address less SCREEN_BASE; `rom` is the loaded program, ROM_LEN its length
(R29). -/
structure State where
  a      : Word
  d      : Word
  pc     : Word
  ram    : Memory
  screen : Memory
  kbd    : Word
  rom    : List Word
  fault  : Option Fault
  deriving DecidableEq, Repr

/-- The state after reset (R31), before any program is loaded (log entry 1). -/
def State.reset : State where
  a      := 0
  d      := 0
  pc     := 0
  ram    := []
  screen := []
  kbd    := 0
  rom    := []
  fault  := none

end Sys2Proof.Machine
end

