-- ==== Sys2Proof/Machine/Ops.lean ====
section
/-! DEFINITION. The named operations over memory and registers: the word memories, the accesses
`MemRead`, `MemWrite`, `RomRead` of 20_memory.md, raising a fault, and reset. -/

namespace Sys2Proof.Machine

/-- What a word that nothing has written since reset reads as (20_memory.md R45; log entry 3). -/
def unwritten : Word := 0

/-- The word at a key of a memory. -/
def Memory.read : Memory → Nat → Word
  | [], _ => unwritten
  | (k, v) :: m, key => if key = k then v else Memory.read m key

/-- A memory with one word written, in canonical form. -/
def Memory.write : Memory → Nat → Word → Memory
  | [], key, v => if v = unwritten then [] else [(key, v)]
  | (k, w) :: m, key, v =>
    if key < k then (if v = unwritten then (k, w) :: m else (key, v) :: (k, w) :: m)
    else if key = k then (if v = unwritten then m else (key, v) :: m)
    else (k, w) :: Memory.write m key v

/-- The canonical form of a memory of `size` words: addresses strictly rising, each inside the
memory, no entry equal to what an unlisted address reads as. -/
abbrev Memory.wf (size : Nat) (m : Memory) : Prop :=
  m.Pairwise (fun p q => p.1 < q.1) ∧ ∀ p ∈ m, p.1 < size ∧ p.2 ≠ unwritten

/-- `MemRead(addr, 1)` (20_memory.md R43). -/
def memRead (addr : Nat) (s : State) : Except Fault Word :=
  match region addr with
  | .ram        => .ok (Memory.read s.ram addr)
  | .screen     => .ok (Memory.read s.screen (addr - screenBase))
  | .kbd        => .ok s.kbd
  | .unmapped   => .error (.readOutOfRange addr)
  | .outOfRange => .error (.readOutOfRange addr)

/-- `MemWrite(addr, 1, v)` (20_memory.md R44); a write to KBD is discarded (log entry 10). -/
def memWrite (addr : Nat) (v : Word) (s : State) : Except Fault State :=
  match region addr with
  | .ram        => .ok { s with ram := Memory.write s.ram addr v }
  | .screen     => .ok { s with screen := Memory.write s.screen (addr - screenBase) v }
  | .kbd        => .ok s
  | .unmapped   => .error (.writeOutOfRange addr)
  | .outOfRange => .error (.writeOutOfRange addr)

/-- `RomRead(pc)` (20_memory.md R47). -/
def romRead (pc : Word) (s : State) : Except Fault Word :=
  match s.rom[pc.toNat]? with
  | some w => .ok w
  | none   => .error (.fetchOutOfRange pc)

/-- `raise Fault(kind, info)`: the pre-step state with the fault mark set (60_exceptions.md R211).
This is all there is to an exception on this machine: nothing is saved or vectored (R216), and no
instruction returns from one (R217). -/
def raiseFault (r : Fault) (s : State) : State := { s with fault := some r }

/-- The state a program load creates (10_state.md R32). -/
def State.loaded (program : List Word) : State := { State.reset with rom := program }

/-- `reset()` (70_reset_and_hazards.md R250), for either value of RESET_RAM. -/
def resetCpuWith (r : ResetRam) (s : State) : State :=
  match r with
  | .zero => State.loaded s.rom
  | .keep => { State.loaded s.rom with ram := s.ram, screen := s.screen }

/-- `reset()` (70_reset_and_hazards.md R250; log entry 16). -/
def resetCpu (s : State) : State := resetCpuWith params.resetRam s

/-- `set_keyboard(v)`, the only writer of KBD (20_memory.md R49; log entry 24). -/
def setKeyboard (v : Word) (s : State) : State := { s with kbd := v }

end Sys2Proof.Machine
end

