-- ==== Sys2Proof/Machine/AInstruction.lean ====
section
/-! DEFINITION. The A-instruction (41_a_instruction.md R120). -/

namespace Sys2Proof.Machine

/-- `@v`: A takes the immediate, already widened to a word by the decoder (30_encoding.md R74; log
entry 27), and PC advances. No data access is made. -/
def execAInstr (v : Word) (s : State) : Host.Outcome State Fault Refusal :=
  .next { s with a := v, pc := s.pc + 1 }

end Sys2Proof.Machine
end

