-- ==== Sys2Proof/Syntax.lean ====
section
/-! DEFINITION. Instructions as terms: one constructor for each row of spec/opcode_table.json
(30_encoding.md R80), and the decoded view of 30_encoding.md R74. -/

namespace Sys2Proof

/-- The destination flags `dA dD dM` (30_encoding.md R78). Any subset may be set. -/
structure Dest where
  a : Bool
  d : Bool
  m : Bool
  deriving DecidableEq, Repr

/-- The jump selector, by its eight conditions (30_encoding.md R79). -/
inductive Jump
  | never
  | jgt
  | jeq
  | jge
  | jlt
  | jne
  | jle
  | jmp
  deriving DecidableEq, Repr

/-- The decoded view of an instruction word (30_encoding.md R74). -/
inductive View
  /-- `AInstr`, with its immediate widened to a word -/
  | a (value : Word)
  /-- `CInstr`, with the unused bits `u`, the operand source, the function code, the destination
  flags and the jump selector -/
  | c (u : BitVec 2) (src : Operand) (code : Ctl) (dest : Dest) (jump : Jump)
  deriving DecidableEq, Repr

/-- The instructions. `aInstr` is `@v`, with the immediate as the word it loads. Every other
constructor is one value of the 7-bit comp field: `comp<name>` is a canonical comp (30_encoding.md
R77), `alu<a>_<cccccc>` is the comp the listing spells `ALU[a,cccccc]` (R88). Their fields are the
unused bits `u` (R75), the destinations and the jump. There is no pseudo-instruction and no halt
instruction (R87). -/
inductive Instr
  | aInstr (v : Word)
  | compZero (u : BitVec 2) (d : Dest) (j : Jump)
  | compOne (u : BitVec 2) (d : Dest) (j : Jump)
  | compNegOne (u : BitVec 2) (d : Dest) (j : Jump)
  | compD (u : BitVec 2) (d : Dest) (j : Jump)
  | compA (u : BitVec 2) (d : Dest) (j : Jump)
  | compM (u : BitVec 2) (d : Dest) (j : Jump)
  | compNotD (u : BitVec 2) (d : Dest) (j : Jump)
  | compNotA (u : BitVec 2) (d : Dest) (j : Jump)
  | compNotM (u : BitVec 2) (d : Dest) (j : Jump)
  | compNegD (u : BitVec 2) (d : Dest) (j : Jump)
  | compNegA (u : BitVec 2) (d : Dest) (j : Jump)
  | compNegM (u : BitVec 2) (d : Dest) (j : Jump)
  | compDPlus1 (u : BitVec 2) (d : Dest) (j : Jump)
  | compAPlus1 (u : BitVec 2) (d : Dest) (j : Jump)
  | compMPlus1 (u : BitVec 2) (d : Dest) (j : Jump)
  | compDMinus1 (u : BitVec 2) (d : Dest) (j : Jump)
  | compAMinus1 (u : BitVec 2) (d : Dest) (j : Jump)
  | compMMinus1 (u : BitVec 2) (d : Dest) (j : Jump)
  | compDPlusA (u : BitVec 2) (d : Dest) (j : Jump)
  | compDPlusM (u : BitVec 2) (d : Dest) (j : Jump)
  | compDMinusA (u : BitVec 2) (d : Dest) (j : Jump)
  | compDMinusM (u : BitVec 2) (d : Dest) (j : Jump)
  | compAMinusD (u : BitVec 2) (d : Dest) (j : Jump)
  | compMMinusD (u : BitVec 2) (d : Dest) (j : Jump)
  | compDAndA (u : BitVec 2) (d : Dest) (j : Jump)
  | compDAndM (u : BitVec 2) (d : Dest) (j : Jump)
  | compDOrA (u : BitVec 2) (d : Dest) (j : Jump)
  | compDOrM (u : BitVec 2) (d : Dest) (j : Jump)
  | alu1_001100 (u : BitVec 2) (d : Dest) (j : Jump)
  | alu1_001101 (u : BitVec 2) (d : Dest) (j : Jump)
  | alu1_001110 (u : BitVec 2) (d : Dest) (j : Jump)
  | alu1_001111 (u : BitVec 2) (d : Dest) (j : Jump)
  | alu1_011111 (u : BitVec 2) (d : Dest) (j : Jump)
  | alu1_101010 (u : BitVec 2) (d : Dest) (j : Jump)
  | alu1_111010 (u : BitVec 2) (d : Dest) (j : Jump)
  | alu1_111111 (u : BitVec 2) (d : Dest) (j : Jump)
  | alu0_000001 (u : BitVec 2) (d : Dest) (j : Jump)
  | alu0_000011 (u : BitVec 2) (d : Dest) (j : Jump)
  | alu0_000100 (u : BitVec 2) (d : Dest) (j : Jump)
  | alu0_000101 (u : BitVec 2) (d : Dest) (j : Jump)
  | alu0_000110 (u : BitVec 2) (d : Dest) (j : Jump)
  | alu0_001000 (u : BitVec 2) (d : Dest) (j : Jump)
  | alu0_001001 (u : BitVec 2) (d : Dest) (j : Jump)
  | alu0_001010 (u : BitVec 2) (d : Dest) (j : Jump)
  | alu0_001011 (u : BitVec 2) (d : Dest) (j : Jump)
  | alu0_010000 (u : BitVec 2) (d : Dest) (j : Jump)
  | alu0_010001 (u : BitVec 2) (d : Dest) (j : Jump)
  | alu0_010010 (u : BitVec 2) (d : Dest) (j : Jump)
  | alu0_010100 (u : BitVec 2) (d : Dest) (j : Jump)
  | alu0_010110 (u : BitVec 2) (d : Dest) (j : Jump)
  | alu0_010111 (u : BitVec 2) (d : Dest) (j : Jump)
  | alu0_011000 (u : BitVec 2) (d : Dest) (j : Jump)
  | alu0_011001 (u : BitVec 2) (d : Dest) (j : Jump)
  | alu0_011010 (u : BitVec 2) (d : Dest) (j : Jump)
  | alu0_011011 (u : BitVec 2) (d : Dest) (j : Jump)
  | alu0_011100 (u : BitVec 2) (d : Dest) (j : Jump)
  | alu0_011101 (u : BitVec 2) (d : Dest) (j : Jump)
  | alu0_011110 (u : BitVec 2) (d : Dest) (j : Jump)
  | alu0_100000 (u : BitVec 2) (d : Dest) (j : Jump)
  | alu0_100001 (u : BitVec 2) (d : Dest) (j : Jump)
  | alu0_100010 (u : BitVec 2) (d : Dest) (j : Jump)
  | alu0_100011 (u : BitVec 2) (d : Dest) (j : Jump)
  | alu0_100100 (u : BitVec 2) (d : Dest) (j : Jump)
  | alu0_100101 (u : BitVec 2) (d : Dest) (j : Jump)
  | alu0_100110 (u : BitVec 2) (d : Dest) (j : Jump)
  | alu0_100111 (u : BitVec 2) (d : Dest) (j : Jump)
  | alu0_101000 (u : BitVec 2) (d : Dest) (j : Jump)
  | alu0_101001 (u : BitVec 2) (d : Dest) (j : Jump)
  | alu0_101011 (u : BitVec 2) (d : Dest) (j : Jump)
  | alu0_101100 (u : BitVec 2) (d : Dest) (j : Jump)
  | alu0_101101 (u : BitVec 2) (d : Dest) (j : Jump)
  | alu0_101110 (u : BitVec 2) (d : Dest) (j : Jump)
  | alu0_101111 (u : BitVec 2) (d : Dest) (j : Jump)
  | alu0_110100 (u : BitVec 2) (d : Dest) (j : Jump)
  | alu0_110101 (u : BitVec 2) (d : Dest) (j : Jump)
  | alu0_110110 (u : BitVec 2) (d : Dest) (j : Jump)
  | alu0_111000 (u : BitVec 2) (d : Dest) (j : Jump)
  | alu0_111001 (u : BitVec 2) (d : Dest) (j : Jump)
  | alu0_111011 (u : BitVec 2) (d : Dest) (j : Jump)
  | alu0_111100 (u : BitVec 2) (d : Dest) (j : Jump)
  | alu0_111101 (u : BitVec 2) (d : Dest) (j : Jump)
  | alu0_111110 (u : BitVec 2) (d : Dest) (j : Jump)
  | alu1_000001 (u : BitVec 2) (d : Dest) (j : Jump)
  | alu1_000011 (u : BitVec 2) (d : Dest) (j : Jump)
  | alu1_000100 (u : BitVec 2) (d : Dest) (j : Jump)
  | alu1_000101 (u : BitVec 2) (d : Dest) (j : Jump)
  | alu1_000110 (u : BitVec 2) (d : Dest) (j : Jump)
  | alu1_001000 (u : BitVec 2) (d : Dest) (j : Jump)
  | alu1_001001 (u : BitVec 2) (d : Dest) (j : Jump)
  | alu1_001010 (u : BitVec 2) (d : Dest) (j : Jump)
  | alu1_001011 (u : BitVec 2) (d : Dest) (j : Jump)
  | alu1_010000 (u : BitVec 2) (d : Dest) (j : Jump)
  | alu1_010001 (u : BitVec 2) (d : Dest) (j : Jump)
  | alu1_010010 (u : BitVec 2) (d : Dest) (j : Jump)
  | alu1_010100 (u : BitVec 2) (d : Dest) (j : Jump)
  | alu1_010110 (u : BitVec 2) (d : Dest) (j : Jump)
  | alu1_010111 (u : BitVec 2) (d : Dest) (j : Jump)
  | alu1_011000 (u : BitVec 2) (d : Dest) (j : Jump)
  | alu1_011001 (u : BitVec 2) (d : Dest) (j : Jump)
  | alu1_011010 (u : BitVec 2) (d : Dest) (j : Jump)
  | alu1_011011 (u : BitVec 2) (d : Dest) (j : Jump)
  | alu1_011100 (u : BitVec 2) (d : Dest) (j : Jump)
  | alu1_011101 (u : BitVec 2) (d : Dest) (j : Jump)
  | alu1_011110 (u : BitVec 2) (d : Dest) (j : Jump)
  | alu1_100000 (u : BitVec 2) (d : Dest) (j : Jump)
  | alu1_100001 (u : BitVec 2) (d : Dest) (j : Jump)
  | alu1_100010 (u : BitVec 2) (d : Dest) (j : Jump)
  | alu1_100011 (u : BitVec 2) (d : Dest) (j : Jump)
  | alu1_100100 (u : BitVec 2) (d : Dest) (j : Jump)
  | alu1_100101 (u : BitVec 2) (d : Dest) (j : Jump)
  | alu1_100110 (u : BitVec 2) (d : Dest) (j : Jump)
  | alu1_100111 (u : BitVec 2) (d : Dest) (j : Jump)
  | alu1_101000 (u : BitVec 2) (d : Dest) (j : Jump)
  | alu1_101001 (u : BitVec 2) (d : Dest) (j : Jump)
  | alu1_101011 (u : BitVec 2) (d : Dest) (j : Jump)
  | alu1_101100 (u : BitVec 2) (d : Dest) (j : Jump)
  | alu1_101101 (u : BitVec 2) (d : Dest) (j : Jump)
  | alu1_101110 (u : BitVec 2) (d : Dest) (j : Jump)
  | alu1_101111 (u : BitVec 2) (d : Dest) (j : Jump)
  | alu1_110100 (u : BitVec 2) (d : Dest) (j : Jump)
  | alu1_110101 (u : BitVec 2) (d : Dest) (j : Jump)
  | alu1_110110 (u : BitVec 2) (d : Dest) (j : Jump)
  | alu1_111000 (u : BitVec 2) (d : Dest) (j : Jump)
  | alu1_111001 (u : BitVec 2) (d : Dest) (j : Jump)
  | alu1_111011 (u : BitVec 2) (d : Dest) (j : Jump)
  | alu1_111100 (u : BitVec 2) (d : Dest) (j : Jump)
  | alu1_111101 (u : BitVec 2) (d : Dest) (j : Jump)
  | alu1_111110 (u : BitVec 2) (d : Dest) (j : Jump)
  deriving DecidableEq, Repr

end Sys2Proof
end

