-- ==== Sys2Proof/WellFormed.lean ====
section
/-! DEFINITION. Which terms of `Instr` are instructions of the machine. -/

namespace Sys2Proof

/-- The immediate of an A-instruction is a value 0..32767 (30_encoding.md R73). Every comp value
with any `u`, destinations and jump is an instruction (R80, R81), so no other term has a check. -/
def Instr.wellFormed (i : Instr) : Bool :=
  match i with
  | .aInstr v => v.toNat < 32768
  | .compZero .. | .compOne .. | .compNegOne .. | .compD ..
  | .compA .. | .compM .. | .compNotD .. | .compNotA ..
  | .compNotM .. | .compNegD .. | .compNegA .. | .compNegM ..
  | .compDPlus1 .. | .compAPlus1 .. | .compMPlus1 .. | .compDMinus1 ..
  | .compAMinus1 .. | .compMMinus1 .. | .compDPlusA .. | .compDPlusM ..
  | .compDMinusA .. | .compDMinusM .. | .compAMinusD .. | .compMMinusD ..
  | .compDAndA .. | .compDAndM .. | .compDOrA .. | .compDOrM ..
  | .alu1_001100 .. | .alu1_001101 .. | .alu1_001110 .. | .alu1_001111 ..
  | .alu1_011111 .. | .alu1_101010 .. | .alu1_111010 .. | .alu1_111111 ..
  | .alu0_000001 .. | .alu0_000011 .. | .alu0_000100 .. | .alu0_000101 ..
  | .alu0_000110 .. | .alu0_001000 .. | .alu0_001001 .. | .alu0_001010 ..
  | .alu0_001011 .. | .alu0_010000 .. | .alu0_010001 .. | .alu0_010010 ..
  | .alu0_010100 .. | .alu0_010110 .. | .alu0_010111 .. | .alu0_011000 ..
  | .alu0_011001 .. | .alu0_011010 .. | .alu0_011011 .. | .alu0_011100 ..
  | .alu0_011101 .. | .alu0_011110 .. | .alu0_100000 .. | .alu0_100001 ..
  | .alu0_100010 .. | .alu0_100011 .. | .alu0_100100 .. | .alu0_100101 ..
  | .alu0_100110 .. | .alu0_100111 .. | .alu0_101000 .. | .alu0_101001 ..
  | .alu0_101011 .. | .alu0_101100 .. | .alu0_101101 .. | .alu0_101110 ..
  | .alu0_101111 .. | .alu0_110100 .. | .alu0_110101 .. | .alu0_110110 ..
  | .alu0_111000 .. | .alu0_111001 .. | .alu0_111011 .. | .alu0_111100 ..
  | .alu0_111101 .. | .alu0_111110 .. | .alu1_000001 .. | .alu1_000011 ..
  | .alu1_000100 .. | .alu1_000101 .. | .alu1_000110 .. | .alu1_001000 ..
  | .alu1_001001 .. | .alu1_001010 .. | .alu1_001011 .. | .alu1_010000 ..
  | .alu1_010001 .. | .alu1_010010 .. | .alu1_010100 .. | .alu1_010110 ..
  | .alu1_010111 .. | .alu1_011000 .. | .alu1_011001 .. | .alu1_011010 ..
  | .alu1_011011 .. | .alu1_011100 .. | .alu1_011101 .. | .alu1_011110 ..
  | .alu1_100000 .. | .alu1_100001 .. | .alu1_100010 .. | .alu1_100011 ..
  | .alu1_100100 .. | .alu1_100101 .. | .alu1_100110 .. | .alu1_100111 ..
  | .alu1_101000 .. | .alu1_101001 .. | .alu1_101011 .. | .alu1_101100 ..
  | .alu1_101101 .. | .alu1_101110 .. | .alu1_101111 .. | .alu1_110100 ..
  | .alu1_110101 .. | .alu1_110110 .. | .alu1_111000 .. | .alu1_111001 ..
  | .alu1_111011 .. | .alu1_111100 .. | .alu1_111101 .. | .alu1_111110 .. => true

end Sys2Proof
end

