-- ==== Sys2Proof/Decode.lean ====
section
/-! DEFINITION. Decoding and encoding (30_encoding.md R70 to R82). Decoding is total: every one of
the 65536 words is an instruction, so there is no word to refuse (R74, R81). The field positions
are those of R71 and R72 (log entry 5). -/

namespace Sys2Proof

/-- The operand source of the bit `a` (R72). -/
def Operand.ofBit (b : Bool) : Operand := if b then .m else .a

/-- The bit `a` of an operand source (R72). -/
def Operand.bit : Operand → Bool
  | .a => false
  | .m => true

/-- The jump selector of the bits `jlt jeq jgt` (R79). -/
def Jump.ofBits (jlt jeq jgt : Bool) : Jump :=
  match jlt, jeq, jgt with
  | false, false, false => .never
  | false, false, true  => .jgt
  | false, true,  false => .jeq
  | false, true,  true  => .jge
  | true,  false, false => .jlt
  | true,  false, true  => .jne
  | true,  true,  false => .jle
  | true,  true,  true  => .jmp

/-- The bit `jlt` of a jump selector (R79). -/
def Jump.lt : Jump → Bool
  | .never => false | .jgt => false | .jeq => false | .jge => false
  | .jlt => true | .jne => true | .jle => true | .jmp => true

/-- The bit `jeq` of a jump selector (R79). -/
def Jump.eq : Jump → Bool
  | .never => false | .jgt => false | .jeq => true | .jge => true
  | .jlt => false | .jne => false | .jle => true | .jmp => true

/-- The bit `jgt` of a jump selector (R79). -/
def Jump.gt : Jump → Bool
  | .never => false | .jgt => true | .jeq => false | .jge => true
  | .jlt => false | .jne => true | .jle => false | .jmp => true

/-- `decode` of R74: the fields of an instruction word. -/
def viewOfWord (w : Word) : View :=
  if w.getLsbD 15 then
    .c (w.extractLsb' 13 2) (Operand.ofBit (w.getLsbD 12))
      ⟨w.getLsbD 11, w.getLsbD 10, w.getLsbD 9, w.getLsbD 8, w.getLsbD 7, w.getLsbD 6⟩
      ⟨w.getLsbD 5, w.getLsbD 4, w.getLsbD 3⟩
      (Jump.ofBits (w.getLsbD 2) (w.getLsbD 1) (w.getLsbD 0))
  else
    .a ((w.extractLsb' 0 15).setWidth 16)

/-- `encode` of R76: the word of a decoded view. -/
def wordOfView : View → Word
  | .a value => 0#1 ++ value.extractLsb' 0 15
  | .c u src k d j =>
    1#1 ++ u ++ BitVec.ofBool src.bit
      ++ BitVec.ofBool k.zx ++ BitVec.ofBool k.nx ++ BitVec.ofBool k.zy
      ++ BitVec.ofBool k.ny ++ BitVec.ofBool k.f ++ BitVec.ofBool k.no
      ++ BitVec.ofBool d.a ++ BitVec.ofBool d.d ++ BitVec.ofBool d.m
      ++ BitVec.ofBool j.lt ++ BitVec.ofBool j.eq ++ BitVec.ofBool j.gt

/-- The instruction of a decoded view: the opcode map (R77, R80). The bits of a row stand in the
order `zx nx zy ny f no`. -/
def Instr.ofView : View → Instr
  | .a v => .aInstr v
  | .c u .a ⟨false, false, false, false, false, false⟩ d j => .compDAndA u d j
  | .c u .a ⟨false, false, false, false, false, true⟩ d j => .alu0_000001 u d j
  | .c u .a ⟨false, false, false, false, true, false⟩ d j => .compDPlusA u d j
  | .c u .a ⟨false, false, false, false, true, true⟩ d j => .alu0_000011 u d j
  | .c u .a ⟨false, false, false, true, false, false⟩ d j => .alu0_000100 u d j
  | .c u .a ⟨false, false, false, true, false, true⟩ d j => .alu0_000101 u d j
  | .c u .a ⟨false, false, false, true, true, false⟩ d j => .alu0_000110 u d j
  | .c u .a ⟨false, false, false, true, true, true⟩ d j => .compAMinusD u d j
  | .c u .a ⟨false, false, true, false, false, false⟩ d j => .alu0_001000 u d j
  | .c u .a ⟨false, false, true, false, false, true⟩ d j => .alu0_001001 u d j
  | .c u .a ⟨false, false, true, false, true, false⟩ d j => .alu0_001010 u d j
  | .c u .a ⟨false, false, true, false, true, true⟩ d j => .alu0_001011 u d j
  | .c u .a ⟨false, false, true, true, false, false⟩ d j => .compD u d j
  | .c u .a ⟨false, false, true, true, false, true⟩ d j => .compNotD u d j
  | .c u .a ⟨false, false, true, true, true, false⟩ d j => .compDMinus1 u d j
  | .c u .a ⟨false, false, true, true, true, true⟩ d j => .compNegD u d j
  | .c u .a ⟨false, true, false, false, false, false⟩ d j => .alu0_010000 u d j
  | .c u .a ⟨false, true, false, false, false, true⟩ d j => .alu0_010001 u d j
  | .c u .a ⟨false, true, false, false, true, false⟩ d j => .alu0_010010 u d j
  | .c u .a ⟨false, true, false, false, true, true⟩ d j => .compDMinusA u d j
  | .c u .a ⟨false, true, false, true, false, false⟩ d j => .alu0_010100 u d j
  | .c u .a ⟨false, true, false, true, false, true⟩ d j => .compDOrA u d j
  | .c u .a ⟨false, true, false, true, true, false⟩ d j => .alu0_010110 u d j
  | .c u .a ⟨false, true, false, true, true, true⟩ d j => .alu0_010111 u d j
  | .c u .a ⟨false, true, true, false, false, false⟩ d j => .alu0_011000 u d j
  | .c u .a ⟨false, true, true, false, false, true⟩ d j => .alu0_011001 u d j
  | .c u .a ⟨false, true, true, false, true, false⟩ d j => .alu0_011010 u d j
  | .c u .a ⟨false, true, true, false, true, true⟩ d j => .alu0_011011 u d j
  | .c u .a ⟨false, true, true, true, false, false⟩ d j => .alu0_011100 u d j
  | .c u .a ⟨false, true, true, true, false, true⟩ d j => .alu0_011101 u d j
  | .c u .a ⟨false, true, true, true, true, false⟩ d j => .alu0_011110 u d j
  | .c u .a ⟨false, true, true, true, true, true⟩ d j => .compDPlus1 u d j
  | .c u .a ⟨true, false, false, false, false, false⟩ d j => .alu0_100000 u d j
  | .c u .a ⟨true, false, false, false, false, true⟩ d j => .alu0_100001 u d j
  | .c u .a ⟨true, false, false, false, true, false⟩ d j => .alu0_100010 u d j
  | .c u .a ⟨true, false, false, false, true, true⟩ d j => .alu0_100011 u d j
  | .c u .a ⟨true, false, false, true, false, false⟩ d j => .alu0_100100 u d j
  | .c u .a ⟨true, false, false, true, false, true⟩ d j => .alu0_100101 u d j
  | .c u .a ⟨true, false, false, true, true, false⟩ d j => .alu0_100110 u d j
  | .c u .a ⟨true, false, false, true, true, true⟩ d j => .alu0_100111 u d j
  | .c u .a ⟨true, false, true, false, false, false⟩ d j => .alu0_101000 u d j
  | .c u .a ⟨true, false, true, false, false, true⟩ d j => .alu0_101001 u d j
  | .c u .a ⟨true, false, true, false, true, false⟩ d j => .compZero u d j
  | .c u .a ⟨true, false, true, false, true, true⟩ d j => .alu0_101011 u d j
  | .c u .a ⟨true, false, true, true, false, false⟩ d j => .alu0_101100 u d j
  | .c u .a ⟨true, false, true, true, false, true⟩ d j => .alu0_101101 u d j
  | .c u .a ⟨true, false, true, true, true, false⟩ d j => .alu0_101110 u d j
  | .c u .a ⟨true, false, true, true, true, true⟩ d j => .alu0_101111 u d j
  | .c u .a ⟨true, true, false, false, false, false⟩ d j => .compA u d j
  | .c u .a ⟨true, true, false, false, false, true⟩ d j => .compNotA u d j
  | .c u .a ⟨true, true, false, false, true, false⟩ d j => .compAMinus1 u d j
  | .c u .a ⟨true, true, false, false, true, true⟩ d j => .compNegA u d j
  | .c u .a ⟨true, true, false, true, false, false⟩ d j => .alu0_110100 u d j
  | .c u .a ⟨true, true, false, true, false, true⟩ d j => .alu0_110101 u d j
  | .c u .a ⟨true, true, false, true, true, false⟩ d j => .alu0_110110 u d j
  | .c u .a ⟨true, true, false, true, true, true⟩ d j => .compAPlus1 u d j
  | .c u .a ⟨true, true, true, false, false, false⟩ d j => .alu0_111000 u d j
  | .c u .a ⟨true, true, true, false, false, true⟩ d j => .alu0_111001 u d j
  | .c u .a ⟨true, true, true, false, true, false⟩ d j => .compNegOne u d j
  | .c u .a ⟨true, true, true, false, true, true⟩ d j => .alu0_111011 u d j
  | .c u .a ⟨true, true, true, true, false, false⟩ d j => .alu0_111100 u d j
  | .c u .a ⟨true, true, true, true, false, true⟩ d j => .alu0_111101 u d j
  | .c u .a ⟨true, true, true, true, true, false⟩ d j => .alu0_111110 u d j
  | .c u .a ⟨true, true, true, true, true, true⟩ d j => .compOne u d j
  | .c u .m ⟨false, false, false, false, false, false⟩ d j => .compDAndM u d j
  | .c u .m ⟨false, false, false, false, false, true⟩ d j => .alu1_000001 u d j
  | .c u .m ⟨false, false, false, false, true, false⟩ d j => .compDPlusM u d j
  | .c u .m ⟨false, false, false, false, true, true⟩ d j => .alu1_000011 u d j
  | .c u .m ⟨false, false, false, true, false, false⟩ d j => .alu1_000100 u d j
  | .c u .m ⟨false, false, false, true, false, true⟩ d j => .alu1_000101 u d j
  | .c u .m ⟨false, false, false, true, true, false⟩ d j => .alu1_000110 u d j
  | .c u .m ⟨false, false, false, true, true, true⟩ d j => .compMMinusD u d j
  | .c u .m ⟨false, false, true, false, false, false⟩ d j => .alu1_001000 u d j
  | .c u .m ⟨false, false, true, false, false, true⟩ d j => .alu1_001001 u d j
  | .c u .m ⟨false, false, true, false, true, false⟩ d j => .alu1_001010 u d j
  | .c u .m ⟨false, false, true, false, true, true⟩ d j => .alu1_001011 u d j
  | .c u .m ⟨false, false, true, true, false, false⟩ d j => .alu1_001100 u d j
  | .c u .m ⟨false, false, true, true, false, true⟩ d j => .alu1_001101 u d j
  | .c u .m ⟨false, false, true, true, true, false⟩ d j => .alu1_001110 u d j
  | .c u .m ⟨false, false, true, true, true, true⟩ d j => .alu1_001111 u d j
  | .c u .m ⟨false, true, false, false, false, false⟩ d j => .alu1_010000 u d j
  | .c u .m ⟨false, true, false, false, false, true⟩ d j => .alu1_010001 u d j
  | .c u .m ⟨false, true, false, false, true, false⟩ d j => .alu1_010010 u d j
  | .c u .m ⟨false, true, false, false, true, true⟩ d j => .compDMinusM u d j
  | .c u .m ⟨false, true, false, true, false, false⟩ d j => .alu1_010100 u d j
  | .c u .m ⟨false, true, false, true, false, true⟩ d j => .compDOrM u d j
  | .c u .m ⟨false, true, false, true, true, false⟩ d j => .alu1_010110 u d j
  | .c u .m ⟨false, true, false, true, true, true⟩ d j => .alu1_010111 u d j
  | .c u .m ⟨false, true, true, false, false, false⟩ d j => .alu1_011000 u d j
  | .c u .m ⟨false, true, true, false, false, true⟩ d j => .alu1_011001 u d j
  | .c u .m ⟨false, true, true, false, true, false⟩ d j => .alu1_011010 u d j
  | .c u .m ⟨false, true, true, false, true, true⟩ d j => .alu1_011011 u d j
  | .c u .m ⟨false, true, true, true, false, false⟩ d j => .alu1_011100 u d j
  | .c u .m ⟨false, true, true, true, false, true⟩ d j => .alu1_011101 u d j
  | .c u .m ⟨false, true, true, true, true, false⟩ d j => .alu1_011110 u d j
  | .c u .m ⟨false, true, true, true, true, true⟩ d j => .alu1_011111 u d j
  | .c u .m ⟨true, false, false, false, false, false⟩ d j => .alu1_100000 u d j
  | .c u .m ⟨true, false, false, false, false, true⟩ d j => .alu1_100001 u d j
  | .c u .m ⟨true, false, false, false, true, false⟩ d j => .alu1_100010 u d j
  | .c u .m ⟨true, false, false, false, true, true⟩ d j => .alu1_100011 u d j
  | .c u .m ⟨true, false, false, true, false, false⟩ d j => .alu1_100100 u d j
  | .c u .m ⟨true, false, false, true, false, true⟩ d j => .alu1_100101 u d j
  | .c u .m ⟨true, false, false, true, true, false⟩ d j => .alu1_100110 u d j
  | .c u .m ⟨true, false, false, true, true, true⟩ d j => .alu1_100111 u d j
  | .c u .m ⟨true, false, true, false, false, false⟩ d j => .alu1_101000 u d j
  | .c u .m ⟨true, false, true, false, false, true⟩ d j => .alu1_101001 u d j
  | .c u .m ⟨true, false, true, false, true, false⟩ d j => .alu1_101010 u d j
  | .c u .m ⟨true, false, true, false, true, true⟩ d j => .alu1_101011 u d j
  | .c u .m ⟨true, false, true, true, false, false⟩ d j => .alu1_101100 u d j
  | .c u .m ⟨true, false, true, true, false, true⟩ d j => .alu1_101101 u d j
  | .c u .m ⟨true, false, true, true, true, false⟩ d j => .alu1_101110 u d j
  | .c u .m ⟨true, false, true, true, true, true⟩ d j => .alu1_101111 u d j
  | .c u .m ⟨true, true, false, false, false, false⟩ d j => .compM u d j
  | .c u .m ⟨true, true, false, false, false, true⟩ d j => .compNotM u d j
  | .c u .m ⟨true, true, false, false, true, false⟩ d j => .compMMinus1 u d j
  | .c u .m ⟨true, true, false, false, true, true⟩ d j => .compNegM u d j
  | .c u .m ⟨true, true, false, true, false, false⟩ d j => .alu1_110100 u d j
  | .c u .m ⟨true, true, false, true, false, true⟩ d j => .alu1_110101 u d j
  | .c u .m ⟨true, true, false, true, true, false⟩ d j => .alu1_110110 u d j
  | .c u .m ⟨true, true, false, true, true, true⟩ d j => .compMPlus1 u d j
  | .c u .m ⟨true, true, true, false, false, false⟩ d j => .alu1_111000 u d j
  | .c u .m ⟨true, true, true, false, false, true⟩ d j => .alu1_111001 u d j
  | .c u .m ⟨true, true, true, false, true, false⟩ d j => .alu1_111010 u d j
  | .c u .m ⟨true, true, true, false, true, true⟩ d j => .alu1_111011 u d j
  | .c u .m ⟨true, true, true, true, false, false⟩ d j => .alu1_111100 u d j
  | .c u .m ⟨true, true, true, true, false, true⟩ d j => .alu1_111101 u d j
  | .c u .m ⟨true, true, true, true, true, false⟩ d j => .alu1_111110 u d j
  | .c u .m ⟨true, true, true, true, true, true⟩ d j => .alu1_111111 u d j

/-- The decoded view of an instruction: its comp field, with its operands (R77, R80). -/
def Instr.view : Instr → View
  | .aInstr v => .a v
  | .compZero u d j => .c u .a ⟨true, false, true, false, true, false⟩ d j
  | .compOne u d j => .c u .a ⟨true, true, true, true, true, true⟩ d j
  | .compNegOne u d j => .c u .a ⟨true, true, true, false, true, false⟩ d j
  | .compD u d j => .c u .a ⟨false, false, true, true, false, false⟩ d j
  | .compA u d j => .c u .a ⟨true, true, false, false, false, false⟩ d j
  | .compM u d j => .c u .m ⟨true, true, false, false, false, false⟩ d j
  | .compNotD u d j => .c u .a ⟨false, false, true, true, false, true⟩ d j
  | .compNotA u d j => .c u .a ⟨true, true, false, false, false, true⟩ d j
  | .compNotM u d j => .c u .m ⟨true, true, false, false, false, true⟩ d j
  | .compNegD u d j => .c u .a ⟨false, false, true, true, true, true⟩ d j
  | .compNegA u d j => .c u .a ⟨true, true, false, false, true, true⟩ d j
  | .compNegM u d j => .c u .m ⟨true, true, false, false, true, true⟩ d j
  | .compDPlus1 u d j => .c u .a ⟨false, true, true, true, true, true⟩ d j
  | .compAPlus1 u d j => .c u .a ⟨true, true, false, true, true, true⟩ d j
  | .compMPlus1 u d j => .c u .m ⟨true, true, false, true, true, true⟩ d j
  | .compDMinus1 u d j => .c u .a ⟨false, false, true, true, true, false⟩ d j
  | .compAMinus1 u d j => .c u .a ⟨true, true, false, false, true, false⟩ d j
  | .compMMinus1 u d j => .c u .m ⟨true, true, false, false, true, false⟩ d j
  | .compDPlusA u d j => .c u .a ⟨false, false, false, false, true, false⟩ d j
  | .compDPlusM u d j => .c u .m ⟨false, false, false, false, true, false⟩ d j
  | .compDMinusA u d j => .c u .a ⟨false, true, false, false, true, true⟩ d j
  | .compDMinusM u d j => .c u .m ⟨false, true, false, false, true, true⟩ d j
  | .compAMinusD u d j => .c u .a ⟨false, false, false, true, true, true⟩ d j
  | .compMMinusD u d j => .c u .m ⟨false, false, false, true, true, true⟩ d j
  | .compDAndA u d j => .c u .a ⟨false, false, false, false, false, false⟩ d j
  | .compDAndM u d j => .c u .m ⟨false, false, false, false, false, false⟩ d j
  | .compDOrA u d j => .c u .a ⟨false, true, false, true, false, true⟩ d j
  | .compDOrM u d j => .c u .m ⟨false, true, false, true, false, true⟩ d j
  | .alu1_001100 u d j => .c u .m ⟨false, false, true, true, false, false⟩ d j
  | .alu1_001101 u d j => .c u .m ⟨false, false, true, true, false, true⟩ d j
  | .alu1_001110 u d j => .c u .m ⟨false, false, true, true, true, false⟩ d j
  | .alu1_001111 u d j => .c u .m ⟨false, false, true, true, true, true⟩ d j
  | .alu1_011111 u d j => .c u .m ⟨false, true, true, true, true, true⟩ d j
  | .alu1_101010 u d j => .c u .m ⟨true, false, true, false, true, false⟩ d j
  | .alu1_111010 u d j => .c u .m ⟨true, true, true, false, true, false⟩ d j
  | .alu1_111111 u d j => .c u .m ⟨true, true, true, true, true, true⟩ d j
  | .alu0_000001 u d j => .c u .a ⟨false, false, false, false, false, true⟩ d j
  | .alu0_000011 u d j => .c u .a ⟨false, false, false, false, true, true⟩ d j
  | .alu0_000100 u d j => .c u .a ⟨false, false, false, true, false, false⟩ d j
  | .alu0_000101 u d j => .c u .a ⟨false, false, false, true, false, true⟩ d j
  | .alu0_000110 u d j => .c u .a ⟨false, false, false, true, true, false⟩ d j
  | .alu0_001000 u d j => .c u .a ⟨false, false, true, false, false, false⟩ d j
  | .alu0_001001 u d j => .c u .a ⟨false, false, true, false, false, true⟩ d j
  | .alu0_001010 u d j => .c u .a ⟨false, false, true, false, true, false⟩ d j
  | .alu0_001011 u d j => .c u .a ⟨false, false, true, false, true, true⟩ d j
  | .alu0_010000 u d j => .c u .a ⟨false, true, false, false, false, false⟩ d j
  | .alu0_010001 u d j => .c u .a ⟨false, true, false, false, false, true⟩ d j
  | .alu0_010010 u d j => .c u .a ⟨false, true, false, false, true, false⟩ d j
  | .alu0_010100 u d j => .c u .a ⟨false, true, false, true, false, false⟩ d j
  | .alu0_010110 u d j => .c u .a ⟨false, true, false, true, true, false⟩ d j
  | .alu0_010111 u d j => .c u .a ⟨false, true, false, true, true, true⟩ d j
  | .alu0_011000 u d j => .c u .a ⟨false, true, true, false, false, false⟩ d j
  | .alu0_011001 u d j => .c u .a ⟨false, true, true, false, false, true⟩ d j
  | .alu0_011010 u d j => .c u .a ⟨false, true, true, false, true, false⟩ d j
  | .alu0_011011 u d j => .c u .a ⟨false, true, true, false, true, true⟩ d j
  | .alu0_011100 u d j => .c u .a ⟨false, true, true, true, false, false⟩ d j
  | .alu0_011101 u d j => .c u .a ⟨false, true, true, true, false, true⟩ d j
  | .alu0_011110 u d j => .c u .a ⟨false, true, true, true, true, false⟩ d j
  | .alu0_100000 u d j => .c u .a ⟨true, false, false, false, false, false⟩ d j
  | .alu0_100001 u d j => .c u .a ⟨true, false, false, false, false, true⟩ d j
  | .alu0_100010 u d j => .c u .a ⟨true, false, false, false, true, false⟩ d j
  | .alu0_100011 u d j => .c u .a ⟨true, false, false, false, true, true⟩ d j
  | .alu0_100100 u d j => .c u .a ⟨true, false, false, true, false, false⟩ d j
  | .alu0_100101 u d j => .c u .a ⟨true, false, false, true, false, true⟩ d j
  | .alu0_100110 u d j => .c u .a ⟨true, false, false, true, true, false⟩ d j
  | .alu0_100111 u d j => .c u .a ⟨true, false, false, true, true, true⟩ d j
  | .alu0_101000 u d j => .c u .a ⟨true, false, true, false, false, false⟩ d j
  | .alu0_101001 u d j => .c u .a ⟨true, false, true, false, false, true⟩ d j
  | .alu0_101011 u d j => .c u .a ⟨true, false, true, false, true, true⟩ d j
  | .alu0_101100 u d j => .c u .a ⟨true, false, true, true, false, false⟩ d j
  | .alu0_101101 u d j => .c u .a ⟨true, false, true, true, false, true⟩ d j
  | .alu0_101110 u d j => .c u .a ⟨true, false, true, true, true, false⟩ d j
  | .alu0_101111 u d j => .c u .a ⟨true, false, true, true, true, true⟩ d j
  | .alu0_110100 u d j => .c u .a ⟨true, true, false, true, false, false⟩ d j
  | .alu0_110101 u d j => .c u .a ⟨true, true, false, true, false, true⟩ d j
  | .alu0_110110 u d j => .c u .a ⟨true, true, false, true, true, false⟩ d j
  | .alu0_111000 u d j => .c u .a ⟨true, true, true, false, false, false⟩ d j
  | .alu0_111001 u d j => .c u .a ⟨true, true, true, false, false, true⟩ d j
  | .alu0_111011 u d j => .c u .a ⟨true, true, true, false, true, true⟩ d j
  | .alu0_111100 u d j => .c u .a ⟨true, true, true, true, false, false⟩ d j
  | .alu0_111101 u d j => .c u .a ⟨true, true, true, true, false, true⟩ d j
  | .alu0_111110 u d j => .c u .a ⟨true, true, true, true, true, false⟩ d j
  | .alu1_000001 u d j => .c u .m ⟨false, false, false, false, false, true⟩ d j
  | .alu1_000011 u d j => .c u .m ⟨false, false, false, false, true, true⟩ d j
  | .alu1_000100 u d j => .c u .m ⟨false, false, false, true, false, false⟩ d j
  | .alu1_000101 u d j => .c u .m ⟨false, false, false, true, false, true⟩ d j
  | .alu1_000110 u d j => .c u .m ⟨false, false, false, true, true, false⟩ d j
  | .alu1_001000 u d j => .c u .m ⟨false, false, true, false, false, false⟩ d j
  | .alu1_001001 u d j => .c u .m ⟨false, false, true, false, false, true⟩ d j
  | .alu1_001010 u d j => .c u .m ⟨false, false, true, false, true, false⟩ d j
  | .alu1_001011 u d j => .c u .m ⟨false, false, true, false, true, true⟩ d j
  | .alu1_010000 u d j => .c u .m ⟨false, true, false, false, false, false⟩ d j
  | .alu1_010001 u d j => .c u .m ⟨false, true, false, false, false, true⟩ d j
  | .alu1_010010 u d j => .c u .m ⟨false, true, false, false, true, false⟩ d j
  | .alu1_010100 u d j => .c u .m ⟨false, true, false, true, false, false⟩ d j
  | .alu1_010110 u d j => .c u .m ⟨false, true, false, true, true, false⟩ d j
  | .alu1_010111 u d j => .c u .m ⟨false, true, false, true, true, true⟩ d j
  | .alu1_011000 u d j => .c u .m ⟨false, true, true, false, false, false⟩ d j
  | .alu1_011001 u d j => .c u .m ⟨false, true, true, false, false, true⟩ d j
  | .alu1_011010 u d j => .c u .m ⟨false, true, true, false, true, false⟩ d j
  | .alu1_011011 u d j => .c u .m ⟨false, true, true, false, true, true⟩ d j
  | .alu1_011100 u d j => .c u .m ⟨false, true, true, true, false, false⟩ d j
  | .alu1_011101 u d j => .c u .m ⟨false, true, true, true, false, true⟩ d j
  | .alu1_011110 u d j => .c u .m ⟨false, true, true, true, true, false⟩ d j
  | .alu1_100000 u d j => .c u .m ⟨true, false, false, false, false, false⟩ d j
  | .alu1_100001 u d j => .c u .m ⟨true, false, false, false, false, true⟩ d j
  | .alu1_100010 u d j => .c u .m ⟨true, false, false, false, true, false⟩ d j
  | .alu1_100011 u d j => .c u .m ⟨true, false, false, false, true, true⟩ d j
  | .alu1_100100 u d j => .c u .m ⟨true, false, false, true, false, false⟩ d j
  | .alu1_100101 u d j => .c u .m ⟨true, false, false, true, false, true⟩ d j
  | .alu1_100110 u d j => .c u .m ⟨true, false, false, true, true, false⟩ d j
  | .alu1_100111 u d j => .c u .m ⟨true, false, false, true, true, true⟩ d j
  | .alu1_101000 u d j => .c u .m ⟨true, false, true, false, false, false⟩ d j
  | .alu1_101001 u d j => .c u .m ⟨true, false, true, false, false, true⟩ d j
  | .alu1_101011 u d j => .c u .m ⟨true, false, true, false, true, true⟩ d j
  | .alu1_101100 u d j => .c u .m ⟨true, false, true, true, false, false⟩ d j
  | .alu1_101101 u d j => .c u .m ⟨true, false, true, true, false, true⟩ d j
  | .alu1_101110 u d j => .c u .m ⟨true, false, true, true, true, false⟩ d j
  | .alu1_101111 u d j => .c u .m ⟨true, false, true, true, true, true⟩ d j
  | .alu1_110100 u d j => .c u .m ⟨true, true, false, true, false, false⟩ d j
  | .alu1_110101 u d j => .c u .m ⟨true, true, false, true, false, true⟩ d j
  | .alu1_110110 u d j => .c u .m ⟨true, true, false, true, true, false⟩ d j
  | .alu1_111000 u d j => .c u .m ⟨true, true, true, false, false, false⟩ d j
  | .alu1_111001 u d j => .c u .m ⟨true, true, true, false, false, true⟩ d j
  | .alu1_111011 u d j => .c u .m ⟨true, true, true, false, true, true⟩ d j
  | .alu1_111100 u d j => .c u .m ⟨true, true, true, true, false, false⟩ d j
  | .alu1_111101 u d j => .c u .m ⟨true, true, true, true, false, true⟩ d j
  | .alu1_111110 u d j => .c u .m ⟨true, true, true, true, true, false⟩ d j

/-- The instruction an instruction word stands for (R74). -/
def decode (w : Word) : Instr := Instr.ofView (viewOfWord w)

/-- The instruction word of an instruction (R76). -/
def encode (i : Instr) : Word := wordOfView i.view

/-- The instruction the decoder reads from an instruction whose bits are `w`, `nbits` of them given
and the rest 0 (R70: every instruction is exactly one 16-bit word). It answers `none` only where
`w` is not one 16-bit word with `nbits` bits given (log entry 28). -/
def decodeTableWord (nbits w : Nat) : Option Instr :=
  if nbits ≤ 16 ∧ w < 2 ^ nbits then some (decode (BitVec.ofNat 16 w)) else none

end Sys2Proof
end

