-- ==== Sys2Proof/Machine/Flags.lean ====
section
/-! DEFINITION. The zero and negative classification of an ALU result (42_c_alu.md R132) and the
eight jump conditions (43_c_dest_jump.md R185 to R192). The machine stores no flag (10_state.md
R24). -/

namespace Sys2Proof.Machine

/-- `zr` (R132). -/
def zr (out : Word) : Bool := out == 0

/-- `ng` (R132): bit 15 of the result. -/
def ng (out : Word) : Bool := out.getLsbD 15

/-- `take`, the condition of each jump rule (R185 to R192). -/
def take (j : Jump) (out : Word) : Bool :=
  match j with
  | .never => false
  | .jgt   => !zr out && !ng out
  | .jeq   => zr out
  | .jge   => !ng out
  | .jlt   => ng out
  | .jne   => !zr out
  | .jle   => zr out || ng out
  | .jmp   => true

end Sys2Proof.Machine
end

