-- ==== Sys2Proof/Machine/Operands.lean ====
section
/-! DEFINITION. The operands of a C-instruction (42_c_alu.md R130). -/

namespace Sys2Proof.Machine

/-- The first operand `x` is always D. -/
def operandX (s : State) : Word := s.d

/-- The second operand `y`: A, or the data word at A, read even where the function ignores it (log
entry 11). -/
def operandY (src : Operand) (s : State) : Except Fault Word :=
  match src with
  | .a => .ok s.a
  | .m => memRead s.a.toNat s

end Sys2Proof.Machine
end

