-- ==== Sys2Proof/Machine/Compute.lean ====
section
/-! DEFINITION. What every C-instruction does with its function: the operands (42_c_alu.md R130), the
destinations and the jump (43_c_dest_jump.md R180 to R194). Every value read is that of the state
before the instruction (40_execution_cycle.md R103; log entry 12). -/

namespace Sys2Proof.Machine

/-- `jumpTarget(A_old, A_new)` (R193). -/
def jumpTarget (src : JumpTargetSource) (aOld aNew : Word) : Word :=
  match src with
  | .preA  => aOld
  | .postA => aNew

/-- The M destination (R183): a store at the A of the state given, or nothing. -/
def storeM (dest : Dest) (out : Word) (s : State) : Except Fault State :=
  if dest.m then memWrite s.a.toNat out s else .ok s

/-- A after the instruction (R181). -/
def nextA (dest : Dest) (out : Word) (s : State) : Word := if dest.a then out else s.a

/-- D after the instruction (R182). -/
def nextD (dest : Dest) (out : Word) (s : State) : Word := if dest.d then out else s.d

/-- PC after the instruction (R193, R194). -/
def nextPc (p : Params) (dest : Dest) (jump : Jump) (out : Word) (s : State) : Word :=
  if take jump out then jumpTarget p.jumpTargetSource s.a (nextA dest out s) else s.pc + 1

/-- The destinations and the jump on `out` (R180 to R194). A fault of the store leaves nothing done
(40_execution_cycle.md R104). -/
def writeBack (p : Params) (dest : Dest) (jump : Jump) (out : Word) (s : State) :
    Host.Outcome State Fault Refusal :=
  match storeM dest out s with
  | .error r => .fault r
  | .ok t =>
    .next { t with a := nextA dest out s, d := nextD dest out s, pc := nextPc p dest jump out s }

/-- A C-instruction with operand source `src` and function `f` (R100). A read fault comes before a
write fault (60_exceptions.md R214). -/
def compute (p : Params) (src : Operand) (f : Word → Word → Word) (dest : Dest) (jump : Jump)
    (s : State) : Host.Outcome State Fault Refusal :=
  match operandY src s with
  | .error r => .fault r
  | .ok y => writeBack p dest jump (f (operandX s) y) s

end Sys2Proof.Machine
end

