-- ==== Sys2Proof/Machine/CompAlias.lean ====
section
/-! DEFINITION. The `a = 1` spellings of the 8 operand-free canonical codes (42_c_alu.md R161): the M
read is made, then ignored (log entry 11). -/

namespace Sys2Proof.Machine

/-- comp `1001100` (R161). -/
def execAlu1_001100 (dest : Dest) (jump : Jump) (s : State) : Host.Outcome State Fault Refusal :=
  compute params .m (alu ⟨false, false, true, true, false, false⟩) dest jump s

/-- comp `1001101` (R161). -/
def execAlu1_001101 (dest : Dest) (jump : Jump) (s : State) : Host.Outcome State Fault Refusal :=
  compute params .m (alu ⟨false, false, true, true, false, true⟩) dest jump s

/-- comp `1001110` (R161). -/
def execAlu1_001110 (dest : Dest) (jump : Jump) (s : State) : Host.Outcome State Fault Refusal :=
  compute params .m (alu ⟨false, false, true, true, true, false⟩) dest jump s

/-- comp `1001111` (R161). -/
def execAlu1_001111 (dest : Dest) (jump : Jump) (s : State) : Host.Outcome State Fault Refusal :=
  compute params .m (alu ⟨false, false, true, true, true, true⟩) dest jump s

/-- comp `1011111` (R161). -/
def execAlu1_011111 (dest : Dest) (jump : Jump) (s : State) : Host.Outcome State Fault Refusal :=
  compute params .m (alu ⟨false, true, true, true, true, true⟩) dest jump s

/-- comp `1101010` (R161). -/
def execAlu1_101010 (dest : Dest) (jump : Jump) (s : State) : Host.Outcome State Fault Refusal :=
  compute params .m (alu ⟨true, false, true, false, true, false⟩) dest jump s

/-- comp `1111010` (R161). -/
def execAlu1_111010 (dest : Dest) (jump : Jump) (s : State) : Host.Outcome State Fault Refusal :=
  compute params .m (alu ⟨true, true, true, false, true, false⟩) dest jump s

/-- comp `1111111` (R161). -/
def execAlu1_111111 (dest : Dest) (jump : Jump) (s : State) : Host.Outcome State Fault Refusal :=
  compute params .m (alu ⟨true, true, true, true, true, true⟩) dest jump s

end Sys2Proof.Machine
end

