-- ==== Sys2Proof/Machine/CompCanonical.lean ====
section
/-! DEFINITION. The 28 canonical comps, one meaning each (42_c_alu.md R133 to R160). In each, `x` is D
and `y` is A or the data word M at the old A. -/

namespace Sys2Proof.Machine

/-- comp `0` (R133). -/
def execCompZero (dest : Dest) (jump : Jump) (s : State) : Host.Outcome State Fault Refusal :=
  compute params .a (fun _ _ => 0x0000) dest jump s

/-- comp `1` (R134). -/
def execCompOne (dest : Dest) (jump : Jump) (s : State) : Host.Outcome State Fault Refusal :=
  compute params .a (fun _ _ => 0x0001) dest jump s

/-- comp `-1` (R135). -/
def execCompNegOne (dest : Dest) (jump : Jump) (s : State) : Host.Outcome State Fault Refusal :=
  compute params .a (fun _ _ => 0xFFFF) dest jump s

/-- comp `D` (R136). -/
def execCompD (dest : Dest) (jump : Jump) (s : State) : Host.Outcome State Fault Refusal :=
  compute params .a (fun x _ => x) dest jump s

/-- comp `A` (R137). -/
def execCompA (dest : Dest) (jump : Jump) (s : State) : Host.Outcome State Fault Refusal :=
  compute params .a (fun _ y => y) dest jump s

/-- comp `M` (R138). -/
def execCompM (dest : Dest) (jump : Jump) (s : State) : Host.Outcome State Fault Refusal :=
  compute params .m (fun _ y => y) dest jump s

/-- comp `!D` (R139). -/
def execCompNotD (dest : Dest) (jump : Jump) (s : State) : Host.Outcome State Fault Refusal :=
  compute params .a (fun x _ => ~~~x) dest jump s

/-- comp `!A` (R140). -/
def execCompNotA (dest : Dest) (jump : Jump) (s : State) : Host.Outcome State Fault Refusal :=
  compute params .a (fun _ y => ~~~y) dest jump s

/-- comp `!M` (R141). -/
def execCompNotM (dest : Dest) (jump : Jump) (s : State) : Host.Outcome State Fault Refusal :=
  compute params .m (fun _ y => ~~~y) dest jump s

/-- comp `-D` (R142). -/
def execCompNegD (dest : Dest) (jump : Jump) (s : State) : Host.Outcome State Fault Refusal :=
  compute params .a (fun x _ => 0 - x) dest jump s

/-- comp `-A` (R143). -/
def execCompNegA (dest : Dest) (jump : Jump) (s : State) : Host.Outcome State Fault Refusal :=
  compute params .a (fun _ y => 0 - y) dest jump s

/-- comp `-M` (R144). -/
def execCompNegM (dest : Dest) (jump : Jump) (s : State) : Host.Outcome State Fault Refusal :=
  compute params .m (fun _ y => 0 - y) dest jump s

/-- comp `D+1` (R145). -/
def execCompDPlus1 (dest : Dest) (jump : Jump) (s : State) : Host.Outcome State Fault Refusal :=
  compute params .a (fun x _ => x + 1) dest jump s

/-- comp `A+1` (R146). -/
def execCompAPlus1 (dest : Dest) (jump : Jump) (s : State) : Host.Outcome State Fault Refusal :=
  compute params .a (fun _ y => y + 1) dest jump s

/-- comp `M+1` (R147). -/
def execCompMPlus1 (dest : Dest) (jump : Jump) (s : State) : Host.Outcome State Fault Refusal :=
  compute params .m (fun _ y => y + 1) dest jump s

/-- comp `D-1` (R148). -/
def execCompDMinus1 (dest : Dest) (jump : Jump) (s : State) : Host.Outcome State Fault Refusal :=
  compute params .a (fun x _ => x - 1) dest jump s

/-- comp `A-1` (R149). -/
def execCompAMinus1 (dest : Dest) (jump : Jump) (s : State) : Host.Outcome State Fault Refusal :=
  compute params .a (fun _ y => y - 1) dest jump s

/-- comp `M-1` (R150). -/
def execCompMMinus1 (dest : Dest) (jump : Jump) (s : State) : Host.Outcome State Fault Refusal :=
  compute params .m (fun _ y => y - 1) dest jump s

/-- comp `D+A` (R151). -/
def execCompDPlusA (dest : Dest) (jump : Jump) (s : State) : Host.Outcome State Fault Refusal :=
  compute params .a (fun x y => x + y) dest jump s

/-- comp `D+M` (R152). -/
def execCompDPlusM (dest : Dest) (jump : Jump) (s : State) : Host.Outcome State Fault Refusal :=
  compute params .m (fun x y => x + y) dest jump s

/-- comp `D-A` (R153). -/
def execCompDMinusA (dest : Dest) (jump : Jump) (s : State) : Host.Outcome State Fault Refusal :=
  compute params .a (fun x y => x - y) dest jump s

/-- comp `D-M` (R154). -/
def execCompDMinusM (dest : Dest) (jump : Jump) (s : State) : Host.Outcome State Fault Refusal :=
  compute params .m (fun x y => x - y) dest jump s

/-- comp `A-D` (R155). -/
def execCompAMinusD (dest : Dest) (jump : Jump) (s : State) : Host.Outcome State Fault Refusal :=
  compute params .a (fun x y => y - x) dest jump s

/-- comp `M-D` (R156). -/
def execCompMMinusD (dest : Dest) (jump : Jump) (s : State) : Host.Outcome State Fault Refusal :=
  compute params .m (fun x y => y - x) dest jump s

/-- comp `D&A` (R157). -/
def execCompDAndA (dest : Dest) (jump : Jump) (s : State) : Host.Outcome State Fault Refusal :=
  compute params .a (fun x y => x &&& y) dest jump s

/-- comp `D&M` (R158). -/
def execCompDAndM (dest : Dest) (jump : Jump) (s : State) : Host.Outcome State Fault Refusal :=
  compute params .m (fun x y => x &&& y) dest jump s

/-- comp `D|A` (R159). -/
def execCompDOrA (dest : Dest) (jump : Jump) (s : State) : Host.Outcome State Fault Refusal :=
  compute params .a (fun x y => x ||| y) dest jump s

/-- comp `D|M` (R160). -/
def execCompDOrM (dest : Dest) (jump : Jump) (s : State) : Host.Outcome State Fault Refusal :=
  compute params .m (fun x y => x ||| y) dest jump s

end Sys2Proof.Machine
end

