-- ==== Sys2Proof/Machine/CompNoncanonicalA.lean ====
section
/-! DEFINITION. The 46 non-canonical function codes with `a = 0` (42_c_alu.md R162): `out` is
ALU_NONCANONICAL of D and A (log entry 7). -/

namespace Sys2Proof.Machine

/-- comp `0000001` (R162). -/
def execAlu0_000001 (dest : Dest) (jump : Jump) (s : State) : Host.Outcome State Fault Refusal :=
  compute params .a (params.aluNoncanonical .a ⟨false, false, false, false, false, true⟩) dest jump s

/-- comp `0000011` (R162). -/
def execAlu0_000011 (dest : Dest) (jump : Jump) (s : State) : Host.Outcome State Fault Refusal :=
  compute params .a (params.aluNoncanonical .a ⟨false, false, false, false, true, true⟩) dest jump s

/-- comp `0000100` (R162). -/
def execAlu0_000100 (dest : Dest) (jump : Jump) (s : State) : Host.Outcome State Fault Refusal :=
  compute params .a (params.aluNoncanonical .a ⟨false, false, false, true, false, false⟩) dest jump s

/-- comp `0000101` (R162). -/
def execAlu0_000101 (dest : Dest) (jump : Jump) (s : State) : Host.Outcome State Fault Refusal :=
  compute params .a (params.aluNoncanonical .a ⟨false, false, false, true, false, true⟩) dest jump s

/-- comp `0000110` (R162). -/
def execAlu0_000110 (dest : Dest) (jump : Jump) (s : State) : Host.Outcome State Fault Refusal :=
  compute params .a (params.aluNoncanonical .a ⟨false, false, false, true, true, false⟩) dest jump s

/-- comp `0001000` (R162). -/
def execAlu0_001000 (dest : Dest) (jump : Jump) (s : State) : Host.Outcome State Fault Refusal :=
  compute params .a (params.aluNoncanonical .a ⟨false, false, true, false, false, false⟩) dest jump s

/-- comp `0001001` (R162). -/
def execAlu0_001001 (dest : Dest) (jump : Jump) (s : State) : Host.Outcome State Fault Refusal :=
  compute params .a (params.aluNoncanonical .a ⟨false, false, true, false, false, true⟩) dest jump s

/-- comp `0001010` (R162). -/
def execAlu0_001010 (dest : Dest) (jump : Jump) (s : State) : Host.Outcome State Fault Refusal :=
  compute params .a (params.aluNoncanonical .a ⟨false, false, true, false, true, false⟩) dest jump s

/-- comp `0001011` (R162). -/
def execAlu0_001011 (dest : Dest) (jump : Jump) (s : State) : Host.Outcome State Fault Refusal :=
  compute params .a (params.aluNoncanonical .a ⟨false, false, true, false, true, true⟩) dest jump s

/-- comp `0010000` (R162). -/
def execAlu0_010000 (dest : Dest) (jump : Jump) (s : State) : Host.Outcome State Fault Refusal :=
  compute params .a (params.aluNoncanonical .a ⟨false, true, false, false, false, false⟩) dest jump s

/-- comp `0010001` (R162). -/
def execAlu0_010001 (dest : Dest) (jump : Jump) (s : State) : Host.Outcome State Fault Refusal :=
  compute params .a (params.aluNoncanonical .a ⟨false, true, false, false, false, true⟩) dest jump s

/-- comp `0010010` (R162). -/
def execAlu0_010010 (dest : Dest) (jump : Jump) (s : State) : Host.Outcome State Fault Refusal :=
  compute params .a (params.aluNoncanonical .a ⟨false, true, false, false, true, false⟩) dest jump s

/-- comp `0010100` (R162). -/
def execAlu0_010100 (dest : Dest) (jump : Jump) (s : State) : Host.Outcome State Fault Refusal :=
  compute params .a (params.aluNoncanonical .a ⟨false, true, false, true, false, false⟩) dest jump s

/-- comp `0010110` (R162). -/
def execAlu0_010110 (dest : Dest) (jump : Jump) (s : State) : Host.Outcome State Fault Refusal :=
  compute params .a (params.aluNoncanonical .a ⟨false, true, false, true, true, false⟩) dest jump s

/-- comp `0010111` (R162). -/
def execAlu0_010111 (dest : Dest) (jump : Jump) (s : State) : Host.Outcome State Fault Refusal :=
  compute params .a (params.aluNoncanonical .a ⟨false, true, false, true, true, true⟩) dest jump s

/-- comp `0011000` (R162). -/
def execAlu0_011000 (dest : Dest) (jump : Jump) (s : State) : Host.Outcome State Fault Refusal :=
  compute params .a (params.aluNoncanonical .a ⟨false, true, true, false, false, false⟩) dest jump s

/-- comp `0011001` (R162). -/
def execAlu0_011001 (dest : Dest) (jump : Jump) (s : State) : Host.Outcome State Fault Refusal :=
  compute params .a (params.aluNoncanonical .a ⟨false, true, true, false, false, true⟩) dest jump s

/-- comp `0011010` (R162). -/
def execAlu0_011010 (dest : Dest) (jump : Jump) (s : State) : Host.Outcome State Fault Refusal :=
  compute params .a (params.aluNoncanonical .a ⟨false, true, true, false, true, false⟩) dest jump s

/-- comp `0011011` (R162). -/
def execAlu0_011011 (dest : Dest) (jump : Jump) (s : State) : Host.Outcome State Fault Refusal :=
  compute params .a (params.aluNoncanonical .a ⟨false, true, true, false, true, true⟩) dest jump s

/-- comp `0011100` (R162). -/
def execAlu0_011100 (dest : Dest) (jump : Jump) (s : State) : Host.Outcome State Fault Refusal :=
  compute params .a (params.aluNoncanonical .a ⟨false, true, true, true, false, false⟩) dest jump s

/-- comp `0011101` (R162). -/
def execAlu0_011101 (dest : Dest) (jump : Jump) (s : State) : Host.Outcome State Fault Refusal :=
  compute params .a (params.aluNoncanonical .a ⟨false, true, true, true, false, true⟩) dest jump s

/-- comp `0011110` (R162). -/
def execAlu0_011110 (dest : Dest) (jump : Jump) (s : State) : Host.Outcome State Fault Refusal :=
  compute params .a (params.aluNoncanonical .a ⟨false, true, true, true, true, false⟩) dest jump s

/-- comp `0100000` (R162). -/
def execAlu0_100000 (dest : Dest) (jump : Jump) (s : State) : Host.Outcome State Fault Refusal :=
  compute params .a (params.aluNoncanonical .a ⟨true, false, false, false, false, false⟩) dest jump s

/-- comp `0100001` (R162). -/
def execAlu0_100001 (dest : Dest) (jump : Jump) (s : State) : Host.Outcome State Fault Refusal :=
  compute params .a (params.aluNoncanonical .a ⟨true, false, false, false, false, true⟩) dest jump s

/-- comp `0100010` (R162). -/
def execAlu0_100010 (dest : Dest) (jump : Jump) (s : State) : Host.Outcome State Fault Refusal :=
  compute params .a (params.aluNoncanonical .a ⟨true, false, false, false, true, false⟩) dest jump s

/-- comp `0100011` (R162). -/
def execAlu0_100011 (dest : Dest) (jump : Jump) (s : State) : Host.Outcome State Fault Refusal :=
  compute params .a (params.aluNoncanonical .a ⟨true, false, false, false, true, true⟩) dest jump s

/-- comp `0100100` (R162). -/
def execAlu0_100100 (dest : Dest) (jump : Jump) (s : State) : Host.Outcome State Fault Refusal :=
  compute params .a (params.aluNoncanonical .a ⟨true, false, false, true, false, false⟩) dest jump s

/-- comp `0100101` (R162). -/
def execAlu0_100101 (dest : Dest) (jump : Jump) (s : State) : Host.Outcome State Fault Refusal :=
  compute params .a (params.aluNoncanonical .a ⟨true, false, false, true, false, true⟩) dest jump s

/-- comp `0100110` (R162). -/
def execAlu0_100110 (dest : Dest) (jump : Jump) (s : State) : Host.Outcome State Fault Refusal :=
  compute params .a (params.aluNoncanonical .a ⟨true, false, false, true, true, false⟩) dest jump s

/-- comp `0100111` (R162). -/
def execAlu0_100111 (dest : Dest) (jump : Jump) (s : State) : Host.Outcome State Fault Refusal :=
  compute params .a (params.aluNoncanonical .a ⟨true, false, false, true, true, true⟩) dest jump s

/-- comp `0101000` (R162). -/
def execAlu0_101000 (dest : Dest) (jump : Jump) (s : State) : Host.Outcome State Fault Refusal :=
  compute params .a (params.aluNoncanonical .a ⟨true, false, true, false, false, false⟩) dest jump s

/-- comp `0101001` (R162). -/
def execAlu0_101001 (dest : Dest) (jump : Jump) (s : State) : Host.Outcome State Fault Refusal :=
  compute params .a (params.aluNoncanonical .a ⟨true, false, true, false, false, true⟩) dest jump s

/-- comp `0101011` (R162). -/
def execAlu0_101011 (dest : Dest) (jump : Jump) (s : State) : Host.Outcome State Fault Refusal :=
  compute params .a (params.aluNoncanonical .a ⟨true, false, true, false, true, true⟩) dest jump s

/-- comp `0101100` (R162). -/
def execAlu0_101100 (dest : Dest) (jump : Jump) (s : State) : Host.Outcome State Fault Refusal :=
  compute params .a (params.aluNoncanonical .a ⟨true, false, true, true, false, false⟩) dest jump s

/-- comp `0101101` (R162). -/
def execAlu0_101101 (dest : Dest) (jump : Jump) (s : State) : Host.Outcome State Fault Refusal :=
  compute params .a (params.aluNoncanonical .a ⟨true, false, true, true, false, true⟩) dest jump s

/-- comp `0101110` (R162). -/
def execAlu0_101110 (dest : Dest) (jump : Jump) (s : State) : Host.Outcome State Fault Refusal :=
  compute params .a (params.aluNoncanonical .a ⟨true, false, true, true, true, false⟩) dest jump s

/-- comp `0101111` (R162). -/
def execAlu0_101111 (dest : Dest) (jump : Jump) (s : State) : Host.Outcome State Fault Refusal :=
  compute params .a (params.aluNoncanonical .a ⟨true, false, true, true, true, true⟩) dest jump s

/-- comp `0110100` (R162). -/
def execAlu0_110100 (dest : Dest) (jump : Jump) (s : State) : Host.Outcome State Fault Refusal :=
  compute params .a (params.aluNoncanonical .a ⟨true, true, false, true, false, false⟩) dest jump s

/-- comp `0110101` (R162). -/
def execAlu0_110101 (dest : Dest) (jump : Jump) (s : State) : Host.Outcome State Fault Refusal :=
  compute params .a (params.aluNoncanonical .a ⟨true, true, false, true, false, true⟩) dest jump s

/-- comp `0110110` (R162). -/
def execAlu0_110110 (dest : Dest) (jump : Jump) (s : State) : Host.Outcome State Fault Refusal :=
  compute params .a (params.aluNoncanonical .a ⟨true, true, false, true, true, false⟩) dest jump s

/-- comp `0111000` (R162). -/
def execAlu0_111000 (dest : Dest) (jump : Jump) (s : State) : Host.Outcome State Fault Refusal :=
  compute params .a (params.aluNoncanonical .a ⟨true, true, true, false, false, false⟩) dest jump s

/-- comp `0111001` (R162). -/
def execAlu0_111001 (dest : Dest) (jump : Jump) (s : State) : Host.Outcome State Fault Refusal :=
  compute params .a (params.aluNoncanonical .a ⟨true, true, true, false, false, true⟩) dest jump s

/-- comp `0111011` (R162). -/
def execAlu0_111011 (dest : Dest) (jump : Jump) (s : State) : Host.Outcome State Fault Refusal :=
  compute params .a (params.aluNoncanonical .a ⟨true, true, true, false, true, true⟩) dest jump s

/-- comp `0111100` (R162). -/
def execAlu0_111100 (dest : Dest) (jump : Jump) (s : State) : Host.Outcome State Fault Refusal :=
  compute params .a (params.aluNoncanonical .a ⟨true, true, true, true, false, false⟩) dest jump s

/-- comp `0111101` (R162). -/
def execAlu0_111101 (dest : Dest) (jump : Jump) (s : State) : Host.Outcome State Fault Refusal :=
  compute params .a (params.aluNoncanonical .a ⟨true, true, true, true, false, true⟩) dest jump s

/-- comp `0111110` (R162). -/
def execAlu0_111110 (dest : Dest) (jump : Jump) (s : State) : Host.Outcome State Fault Refusal :=
  compute params .a (params.aluNoncanonical .a ⟨true, true, true, true, true, false⟩) dest jump s

end Sys2Proof.Machine
end

