-- ==== Sys2Proof/Machine/CompNoncanonicalM.lean ====
section
/-! DEFINITION. The 46 non-canonical function codes with `a = 1` (42_c_alu.md R162): `out` is
ALU_NONCANONICAL of D and the data word at the old A (log entry 7). -/

namespace Sys2Proof.Machine

/-- comp `1000001` (R162). -/
def execAlu1_000001 (dest : Dest) (jump : Jump) (s : State) : Host.Outcome State Fault Refusal :=
  compute params .m (params.aluNoncanonical .m ⟨false, false, false, false, false, true⟩) dest jump s

/-- comp `1000011` (R162). -/
def execAlu1_000011 (dest : Dest) (jump : Jump) (s : State) : Host.Outcome State Fault Refusal :=
  compute params .m (params.aluNoncanonical .m ⟨false, false, false, false, true, true⟩) dest jump s

/-- comp `1000100` (R162). -/
def execAlu1_000100 (dest : Dest) (jump : Jump) (s : State) : Host.Outcome State Fault Refusal :=
  compute params .m (params.aluNoncanonical .m ⟨false, false, false, true, false, false⟩) dest jump s

/-- comp `1000101` (R162). -/
def execAlu1_000101 (dest : Dest) (jump : Jump) (s : State) : Host.Outcome State Fault Refusal :=
  compute params .m (params.aluNoncanonical .m ⟨false, false, false, true, false, true⟩) dest jump s

/-- comp `1000110` (R162). -/
def execAlu1_000110 (dest : Dest) (jump : Jump) (s : State) : Host.Outcome State Fault Refusal :=
  compute params .m (params.aluNoncanonical .m ⟨false, false, false, true, true, false⟩) dest jump s

/-- comp `1001000` (R162). -/
def execAlu1_001000 (dest : Dest) (jump : Jump) (s : State) : Host.Outcome State Fault Refusal :=
  compute params .m (params.aluNoncanonical .m ⟨false, false, true, false, false, false⟩) dest jump s

/-- comp `1001001` (R162). -/
def execAlu1_001001 (dest : Dest) (jump : Jump) (s : State) : Host.Outcome State Fault Refusal :=
  compute params .m (params.aluNoncanonical .m ⟨false, false, true, false, false, true⟩) dest jump s

/-- comp `1001010` (R162). -/
def execAlu1_001010 (dest : Dest) (jump : Jump) (s : State) : Host.Outcome State Fault Refusal :=
  compute params .m (params.aluNoncanonical .m ⟨false, false, true, false, true, false⟩) dest jump s

/-- comp `1001011` (R162). -/
def execAlu1_001011 (dest : Dest) (jump : Jump) (s : State) : Host.Outcome State Fault Refusal :=
  compute params .m (params.aluNoncanonical .m ⟨false, false, true, false, true, true⟩) dest jump s

/-- comp `1010000` (R162). -/
def execAlu1_010000 (dest : Dest) (jump : Jump) (s : State) : Host.Outcome State Fault Refusal :=
  compute params .m (params.aluNoncanonical .m ⟨false, true, false, false, false, false⟩) dest jump s

/-- comp `1010001` (R162). -/
def execAlu1_010001 (dest : Dest) (jump : Jump) (s : State) : Host.Outcome State Fault Refusal :=
  compute params .m (params.aluNoncanonical .m ⟨false, true, false, false, false, true⟩) dest jump s

/-- comp `1010010` (R162). -/
def execAlu1_010010 (dest : Dest) (jump : Jump) (s : State) : Host.Outcome State Fault Refusal :=
  compute params .m (params.aluNoncanonical .m ⟨false, true, false, false, true, false⟩) dest jump s

/-- comp `1010100` (R162). -/
def execAlu1_010100 (dest : Dest) (jump : Jump) (s : State) : Host.Outcome State Fault Refusal :=
  compute params .m (params.aluNoncanonical .m ⟨false, true, false, true, false, false⟩) dest jump s

/-- comp `1010110` (R162). -/
def execAlu1_010110 (dest : Dest) (jump : Jump) (s : State) : Host.Outcome State Fault Refusal :=
  compute params .m (params.aluNoncanonical .m ⟨false, true, false, true, true, false⟩) dest jump s

/-- comp `1010111` (R162). -/
def execAlu1_010111 (dest : Dest) (jump : Jump) (s : State) : Host.Outcome State Fault Refusal :=
  compute params .m (params.aluNoncanonical .m ⟨false, true, false, true, true, true⟩) dest jump s

/-- comp `1011000` (R162). -/
def execAlu1_011000 (dest : Dest) (jump : Jump) (s : State) : Host.Outcome State Fault Refusal :=
  compute params .m (params.aluNoncanonical .m ⟨false, true, true, false, false, false⟩) dest jump s

/-- comp `1011001` (R162). -/
def execAlu1_011001 (dest : Dest) (jump : Jump) (s : State) : Host.Outcome State Fault Refusal :=
  compute params .m (params.aluNoncanonical .m ⟨false, true, true, false, false, true⟩) dest jump s

/-- comp `1011010` (R162). -/
def execAlu1_011010 (dest : Dest) (jump : Jump) (s : State) : Host.Outcome State Fault Refusal :=
  compute params .m (params.aluNoncanonical .m ⟨false, true, true, false, true, false⟩) dest jump s

/-- comp `1011011` (R162). -/
def execAlu1_011011 (dest : Dest) (jump : Jump) (s : State) : Host.Outcome State Fault Refusal :=
  compute params .m (params.aluNoncanonical .m ⟨false, true, true, false, true, true⟩) dest jump s

/-- comp `1011100` (R162). -/
def execAlu1_011100 (dest : Dest) (jump : Jump) (s : State) : Host.Outcome State Fault Refusal :=
  compute params .m (params.aluNoncanonical .m ⟨false, true, true, true, false, false⟩) dest jump s

/-- comp `1011101` (R162). -/
def execAlu1_011101 (dest : Dest) (jump : Jump) (s : State) : Host.Outcome State Fault Refusal :=
  compute params .m (params.aluNoncanonical .m ⟨false, true, true, true, false, true⟩) dest jump s

/-- comp `1011110` (R162). -/
def execAlu1_011110 (dest : Dest) (jump : Jump) (s : State) : Host.Outcome State Fault Refusal :=
  compute params .m (params.aluNoncanonical .m ⟨false, true, true, true, true, false⟩) dest jump s

/-- comp `1100000` (R162). -/
def execAlu1_100000 (dest : Dest) (jump : Jump) (s : State) : Host.Outcome State Fault Refusal :=
  compute params .m (params.aluNoncanonical .m ⟨true, false, false, false, false, false⟩) dest jump s

/-- comp `1100001` (R162). -/
def execAlu1_100001 (dest : Dest) (jump : Jump) (s : State) : Host.Outcome State Fault Refusal :=
  compute params .m (params.aluNoncanonical .m ⟨true, false, false, false, false, true⟩) dest jump s

/-- comp `1100010` (R162). -/
def execAlu1_100010 (dest : Dest) (jump : Jump) (s : State) : Host.Outcome State Fault Refusal :=
  compute params .m (params.aluNoncanonical .m ⟨true, false, false, false, true, false⟩) dest jump s

/-- comp `1100011` (R162). -/
def execAlu1_100011 (dest : Dest) (jump : Jump) (s : State) : Host.Outcome State Fault Refusal :=
  compute params .m (params.aluNoncanonical .m ⟨true, false, false, false, true, true⟩) dest jump s

/-- comp `1100100` (R162). -/
def execAlu1_100100 (dest : Dest) (jump : Jump) (s : State) : Host.Outcome State Fault Refusal :=
  compute params .m (params.aluNoncanonical .m ⟨true, false, false, true, false, false⟩) dest jump s

/-- comp `1100101` (R162). -/
def execAlu1_100101 (dest : Dest) (jump : Jump) (s : State) : Host.Outcome State Fault Refusal :=
  compute params .m (params.aluNoncanonical .m ⟨true, false, false, true, false, true⟩) dest jump s

/-- comp `1100110` (R162). -/
def execAlu1_100110 (dest : Dest) (jump : Jump) (s : State) : Host.Outcome State Fault Refusal :=
  compute params .m (params.aluNoncanonical .m ⟨true, false, false, true, true, false⟩) dest jump s

/-- comp `1100111` (R162). -/
def execAlu1_100111 (dest : Dest) (jump : Jump) (s : State) : Host.Outcome State Fault Refusal :=
  compute params .m (params.aluNoncanonical .m ⟨true, false, false, true, true, true⟩) dest jump s

/-- comp `1101000` (R162). -/
def execAlu1_101000 (dest : Dest) (jump : Jump) (s : State) : Host.Outcome State Fault Refusal :=
  compute params .m (params.aluNoncanonical .m ⟨true, false, true, false, false, false⟩) dest jump s

/-- comp `1101001` (R162). -/
def execAlu1_101001 (dest : Dest) (jump : Jump) (s : State) : Host.Outcome State Fault Refusal :=
  compute params .m (params.aluNoncanonical .m ⟨true, false, true, false, false, true⟩) dest jump s

/-- comp `1101011` (R162). -/
def execAlu1_101011 (dest : Dest) (jump : Jump) (s : State) : Host.Outcome State Fault Refusal :=
  compute params .m (params.aluNoncanonical .m ⟨true, false, true, false, true, true⟩) dest jump s

/-- comp `1101100` (R162). -/
def execAlu1_101100 (dest : Dest) (jump : Jump) (s : State) : Host.Outcome State Fault Refusal :=
  compute params .m (params.aluNoncanonical .m ⟨true, false, true, true, false, false⟩) dest jump s

/-- comp `1101101` (R162). -/
def execAlu1_101101 (dest : Dest) (jump : Jump) (s : State) : Host.Outcome State Fault Refusal :=
  compute params .m (params.aluNoncanonical .m ⟨true, false, true, true, false, true⟩) dest jump s

/-- comp `1101110` (R162). -/
def execAlu1_101110 (dest : Dest) (jump : Jump) (s : State) : Host.Outcome State Fault Refusal :=
  compute params .m (params.aluNoncanonical .m ⟨true, false, true, true, true, false⟩) dest jump s

/-- comp `1101111` (R162). -/
def execAlu1_101111 (dest : Dest) (jump : Jump) (s : State) : Host.Outcome State Fault Refusal :=
  compute params .m (params.aluNoncanonical .m ⟨true, false, true, true, true, true⟩) dest jump s

/-- comp `1110100` (R162). -/
def execAlu1_110100 (dest : Dest) (jump : Jump) (s : State) : Host.Outcome State Fault Refusal :=
  compute params .m (params.aluNoncanonical .m ⟨true, true, false, true, false, false⟩) dest jump s

/-- comp `1110101` (R162). -/
def execAlu1_110101 (dest : Dest) (jump : Jump) (s : State) : Host.Outcome State Fault Refusal :=
  compute params .m (params.aluNoncanonical .m ⟨true, true, false, true, false, true⟩) dest jump s

/-- comp `1110110` (R162). -/
def execAlu1_110110 (dest : Dest) (jump : Jump) (s : State) : Host.Outcome State Fault Refusal :=
  compute params .m (params.aluNoncanonical .m ⟨true, true, false, true, true, false⟩) dest jump s

/-- comp `1111000` (R162). -/
def execAlu1_111000 (dest : Dest) (jump : Jump) (s : State) : Host.Outcome State Fault Refusal :=
  compute params .m (params.aluNoncanonical .m ⟨true, true, true, false, false, false⟩) dest jump s

/-- comp `1111001` (R162). -/
def execAlu1_111001 (dest : Dest) (jump : Jump) (s : State) : Host.Outcome State Fault Refusal :=
  compute params .m (params.aluNoncanonical .m ⟨true, true, true, false, false, true⟩) dest jump s

/-- comp `1111011` (R162). -/
def execAlu1_111011 (dest : Dest) (jump : Jump) (s : State) : Host.Outcome State Fault Refusal :=
  compute params .m (params.aluNoncanonical .m ⟨true, true, true, false, true, true⟩) dest jump s

/-- comp `1111100` (R162). -/
def execAlu1_111100 (dest : Dest) (jump : Jump) (s : State) : Host.Outcome State Fault Refusal :=
  compute params .m (params.aluNoncanonical .m ⟨true, true, true, true, false, false⟩) dest jump s

/-- comp `1111101` (R162). -/
def execAlu1_111101 (dest : Dest) (jump : Jump) (s : State) : Host.Outcome State Fault Refusal :=
  compute params .m (params.aluNoncanonical .m ⟨true, true, true, true, false, true⟩) dest jump s

/-- comp `1111110` (R162). -/
def execAlu1_111110 (dest : Dest) (jump : Jump) (s : State) : Host.Outcome State Fault Refusal :=
  compute params .m (params.aluNoncanonical .m ⟨true, true, true, true, true, false⟩) dest jump s

end Sys2Proof.Machine
end

