-- ==== Sys2Proof/Machine/Dispatch.lean ====
section
/-! DEFINITION. Each instruction's meaning. The unused bits `u` reach no meaning (30_encoding.md
R75). -/

namespace Sys2Proof.Machine

def exec (i : Instr) (s : State) : Host.Outcome State Fault Refusal :=
  match i with
  | .aInstr v => Sys2Proof.Machine.execAInstr v s
  | .compZero _ d j => Sys2Proof.Machine.execCompZero d j s
  | .compOne _ d j => Sys2Proof.Machine.execCompOne d j s
  | .compNegOne _ d j => Sys2Proof.Machine.execCompNegOne d j s
  | .compD _ d j => Sys2Proof.Machine.execCompD d j s
  | .compA _ d j => Sys2Proof.Machine.execCompA d j s
  | .compM _ d j => Sys2Proof.Machine.execCompM d j s
  | .compNotD _ d j => Sys2Proof.Machine.execCompNotD d j s
  | .compNotA _ d j => Sys2Proof.Machine.execCompNotA d j s
  | .compNotM _ d j => Sys2Proof.Machine.execCompNotM d j s
  | .compNegD _ d j => Sys2Proof.Machine.execCompNegD d j s
  | .compNegA _ d j => Sys2Proof.Machine.execCompNegA d j s
  | .compNegM _ d j => Sys2Proof.Machine.execCompNegM d j s
  | .compDPlus1 _ d j => Sys2Proof.Machine.execCompDPlus1 d j s
  | .compAPlus1 _ d j => Sys2Proof.Machine.execCompAPlus1 d j s
  | .compMPlus1 _ d j => Sys2Proof.Machine.execCompMPlus1 d j s
  | .compDMinus1 _ d j => Sys2Proof.Machine.execCompDMinus1 d j s
  | .compAMinus1 _ d j => Sys2Proof.Machine.execCompAMinus1 d j s
  | .compMMinus1 _ d j => Sys2Proof.Machine.execCompMMinus1 d j s
  | .compDPlusA _ d j => Sys2Proof.Machine.execCompDPlusA d j s
  | .compDPlusM _ d j => Sys2Proof.Machine.execCompDPlusM d j s
  | .compDMinusA _ d j => Sys2Proof.Machine.execCompDMinusA d j s
  | .compDMinusM _ d j => Sys2Proof.Machine.execCompDMinusM d j s
  | .compAMinusD _ d j => Sys2Proof.Machine.execCompAMinusD d j s
  | .compMMinusD _ d j => Sys2Proof.Machine.execCompMMinusD d j s
  | .compDAndA _ d j => Sys2Proof.Machine.execCompDAndA d j s
  | .compDAndM _ d j => Sys2Proof.Machine.execCompDAndM d j s
  | .compDOrA _ d j => Sys2Proof.Machine.execCompDOrA d j s
  | .compDOrM _ d j => Sys2Proof.Machine.execCompDOrM d j s
  | .alu1_001100 _ d j => Sys2Proof.Machine.execAlu1_001100 d j s
  | .alu1_001101 _ d j => Sys2Proof.Machine.execAlu1_001101 d j s
  | .alu1_001110 _ d j => Sys2Proof.Machine.execAlu1_001110 d j s
  | .alu1_001111 _ d j => Sys2Proof.Machine.execAlu1_001111 d j s
  | .alu1_011111 _ d j => Sys2Proof.Machine.execAlu1_011111 d j s
  | .alu1_101010 _ d j => Sys2Proof.Machine.execAlu1_101010 d j s
  | .alu1_111010 _ d j => Sys2Proof.Machine.execAlu1_111010 d j s
  | .alu1_111111 _ d j => Sys2Proof.Machine.execAlu1_111111 d j s
  | .alu0_000001 _ d j => Sys2Proof.Machine.execAlu0_000001 d j s
  | .alu0_000011 _ d j => Sys2Proof.Machine.execAlu0_000011 d j s
  | .alu0_000100 _ d j => Sys2Proof.Machine.execAlu0_000100 d j s
  | .alu0_000101 _ d j => Sys2Proof.Machine.execAlu0_000101 d j s
  | .alu0_000110 _ d j => Sys2Proof.Machine.execAlu0_000110 d j s
  | .alu0_001000 _ d j => Sys2Proof.Machine.execAlu0_001000 d j s
  | .alu0_001001 _ d j => Sys2Proof.Machine.execAlu0_001001 d j s
  | .alu0_001010 _ d j => Sys2Proof.Machine.execAlu0_001010 d j s
  | .alu0_001011 _ d j => Sys2Proof.Machine.execAlu0_001011 d j s
  | .alu0_010000 _ d j => Sys2Proof.Machine.execAlu0_010000 d j s
  | .alu0_010001 _ d j => Sys2Proof.Machine.execAlu0_010001 d j s
  | .alu0_010010 _ d j => Sys2Proof.Machine.execAlu0_010010 d j s
  | .alu0_010100 _ d j => Sys2Proof.Machine.execAlu0_010100 d j s
  | .alu0_010110 _ d j => Sys2Proof.Machine.execAlu0_010110 d j s
  | .alu0_010111 _ d j => Sys2Proof.Machine.execAlu0_010111 d j s
  | .alu0_011000 _ d j => Sys2Proof.Machine.execAlu0_011000 d j s
  | .alu0_011001 _ d j => Sys2Proof.Machine.execAlu0_011001 d j s
  | .alu0_011010 _ d j => Sys2Proof.Machine.execAlu0_011010 d j s
  | .alu0_011011 _ d j => Sys2Proof.Machine.execAlu0_011011 d j s
  | .alu0_011100 _ d j => Sys2Proof.Machine.execAlu0_011100 d j s
  | .alu0_011101 _ d j => Sys2Proof.Machine.execAlu0_011101 d j s
  | .alu0_011110 _ d j => Sys2Proof.Machine.execAlu0_011110 d j s
  | .alu0_100000 _ d j => Sys2Proof.Machine.execAlu0_100000 d j s
  | .alu0_100001 _ d j => Sys2Proof.Machine.execAlu0_100001 d j s
  | .alu0_100010 _ d j => Sys2Proof.Machine.execAlu0_100010 d j s
  | .alu0_100011 _ d j => Sys2Proof.Machine.execAlu0_100011 d j s
  | .alu0_100100 _ d j => Sys2Proof.Machine.execAlu0_100100 d j s
  | .alu0_100101 _ d j => Sys2Proof.Machine.execAlu0_100101 d j s
  | .alu0_100110 _ d j => Sys2Proof.Machine.execAlu0_100110 d j s
  | .alu0_100111 _ d j => Sys2Proof.Machine.execAlu0_100111 d j s
  | .alu0_101000 _ d j => Sys2Proof.Machine.execAlu0_101000 d j s
  | .alu0_101001 _ d j => Sys2Proof.Machine.execAlu0_101001 d j s
  | .alu0_101011 _ d j => Sys2Proof.Machine.execAlu0_101011 d j s
  | .alu0_101100 _ d j => Sys2Proof.Machine.execAlu0_101100 d j s
  | .alu0_101101 _ d j => Sys2Proof.Machine.execAlu0_101101 d j s
  | .alu0_101110 _ d j => Sys2Proof.Machine.execAlu0_101110 d j s
  | .alu0_101111 _ d j => Sys2Proof.Machine.execAlu0_101111 d j s
  | .alu0_110100 _ d j => Sys2Proof.Machine.execAlu0_110100 d j s
  | .alu0_110101 _ d j => Sys2Proof.Machine.execAlu0_110101 d j s
  | .alu0_110110 _ d j => Sys2Proof.Machine.execAlu0_110110 d j s
  | .alu0_111000 _ d j => Sys2Proof.Machine.execAlu0_111000 d j s
  | .alu0_111001 _ d j => Sys2Proof.Machine.execAlu0_111001 d j s
  | .alu0_111011 _ d j => Sys2Proof.Machine.execAlu0_111011 d j s
  | .alu0_111100 _ d j => Sys2Proof.Machine.execAlu0_111100 d j s
  | .alu0_111101 _ d j => Sys2Proof.Machine.execAlu0_111101 d j s
  | .alu0_111110 _ d j => Sys2Proof.Machine.execAlu0_111110 d j s
  | .alu1_000001 _ d j => Sys2Proof.Machine.execAlu1_000001 d j s
  | .alu1_000011 _ d j => Sys2Proof.Machine.execAlu1_000011 d j s
  | .alu1_000100 _ d j => Sys2Proof.Machine.execAlu1_000100 d j s
  | .alu1_000101 _ d j => Sys2Proof.Machine.execAlu1_000101 d j s
  | .alu1_000110 _ d j => Sys2Proof.Machine.execAlu1_000110 d j s
  | .alu1_001000 _ d j => Sys2Proof.Machine.execAlu1_001000 d j s
  | .alu1_001001 _ d j => Sys2Proof.Machine.execAlu1_001001 d j s
  | .alu1_001010 _ d j => Sys2Proof.Machine.execAlu1_001010 d j s
  | .alu1_001011 _ d j => Sys2Proof.Machine.execAlu1_001011 d j s
  | .alu1_010000 _ d j => Sys2Proof.Machine.execAlu1_010000 d j s
  | .alu1_010001 _ d j => Sys2Proof.Machine.execAlu1_010001 d j s
  | .alu1_010010 _ d j => Sys2Proof.Machine.execAlu1_010010 d j s
  | .alu1_010100 _ d j => Sys2Proof.Machine.execAlu1_010100 d j s
  | .alu1_010110 _ d j => Sys2Proof.Machine.execAlu1_010110 d j s
  | .alu1_010111 _ d j => Sys2Proof.Machine.execAlu1_010111 d j s
  | .alu1_011000 _ d j => Sys2Proof.Machine.execAlu1_011000 d j s
  | .alu1_011001 _ d j => Sys2Proof.Machine.execAlu1_011001 d j s
  | .alu1_011010 _ d j => Sys2Proof.Machine.execAlu1_011010 d j s
  | .alu1_011011 _ d j => Sys2Proof.Machine.execAlu1_011011 d j s
  | .alu1_011100 _ d j => Sys2Proof.Machine.execAlu1_011100 d j s
  | .alu1_011101 _ d j => Sys2Proof.Machine.execAlu1_011101 d j s
  | .alu1_011110 _ d j => Sys2Proof.Machine.execAlu1_011110 d j s
  | .alu1_100000 _ d j => Sys2Proof.Machine.execAlu1_100000 d j s
  | .alu1_100001 _ d j => Sys2Proof.Machine.execAlu1_100001 d j s
  | .alu1_100010 _ d j => Sys2Proof.Machine.execAlu1_100010 d j s
  | .alu1_100011 _ d j => Sys2Proof.Machine.execAlu1_100011 d j s
  | .alu1_100100 _ d j => Sys2Proof.Machine.execAlu1_100100 d j s
  | .alu1_100101 _ d j => Sys2Proof.Machine.execAlu1_100101 d j s
  | .alu1_100110 _ d j => Sys2Proof.Machine.execAlu1_100110 d j s
  | .alu1_100111 _ d j => Sys2Proof.Machine.execAlu1_100111 d j s
  | .alu1_101000 _ d j => Sys2Proof.Machine.execAlu1_101000 d j s
  | .alu1_101001 _ d j => Sys2Proof.Machine.execAlu1_101001 d j s
  | .alu1_101011 _ d j => Sys2Proof.Machine.execAlu1_101011 d j s
  | .alu1_101100 _ d j => Sys2Proof.Machine.execAlu1_101100 d j s
  | .alu1_101101 _ d j => Sys2Proof.Machine.execAlu1_101101 d j s
  | .alu1_101110 _ d j => Sys2Proof.Machine.execAlu1_101110 d j s
  | .alu1_101111 _ d j => Sys2Proof.Machine.execAlu1_101111 d j s
  | .alu1_110100 _ d j => Sys2Proof.Machine.execAlu1_110100 d j s
  | .alu1_110101 _ d j => Sys2Proof.Machine.execAlu1_110101 d j s
  | .alu1_110110 _ d j => Sys2Proof.Machine.execAlu1_110110 d j s
  | .alu1_111000 _ d j => Sys2Proof.Machine.execAlu1_111000 d j s
  | .alu1_111001 _ d j => Sys2Proof.Machine.execAlu1_111001 d j s
  | .alu1_111011 _ d j => Sys2Proof.Machine.execAlu1_111011 d j s
  | .alu1_111100 _ d j => Sys2Proof.Machine.execAlu1_111100 d j s
  | .alu1_111101 _ d j => Sys2Proof.Machine.execAlu1_111101 d j s
  | .alu1_111110 _ d j => Sys2Proof.Machine.execAlu1_111110 d j s

end Sys2Proof.Machine
end

