-- ==== Sys2Proof/Machine/Step.lean ====
section
/-! DEFINITION. One step of the CPU (40_execution_cycle.md R100). -/

namespace Sys2Proof.Machine

/-- A step: none from a faulted state (R101; log entry 9), then the fetch at PC (R102), then the
instruction of the word fetched. -/
def step (s : State) : Host.Outcome State Fault Refusal :=
  match s.fault with
  | some r => .fault r
  | none =>
    match romRead s.pc s with
    | .error r => .fault r
    | .ok w => exec (decode w) s

/-- The state with the instruction word `w` standing where the next step fetches: in ROM at PC, with
`@0` words up to PC where ROM is shorter, and no fault mark (log entry 23). -/
def State.withFetchWord (s : State) (nbits w : Nat) : State :=
  { s with
    rom := s.rom.take s.pc.toNat ++ List.replicate (s.pc.toNat - s.rom.length) 0
      ++ BitVec.ofNat 16 (w % 2 ^ nbits) :: s.rom.drop (s.pc.toNat + 1)
    fault := none }

end Sys2Proof.Machine
end

