-- ==== Sys2Proof/Machine/Report.lean ====
section
/-! DEFINITION. What a step reports to its caller: the halt signal (40_execution_cycle.md R105), the
faulted state (60_exceptions.md R211), and the breakpoint test (R225, R226). -/

namespace Sys2Proof.Machine

/-- What a step leaves and reports (R100). -/
inductive StepReport
  /-- the next state, and whether the step reports `halted` -/
  | stepped (s : State) (halted : Bool)
  /-- the faulted state -/
  | faulted (s : State)
  deriving DecidableEq, Repr

/-- `w[15] = 1 and w[2:0] = 111` (R105). -/
def unconditionalJump (w : Word) : Bool := w.getLsbD 15 && w.extractLsb' 0 3 == 7#3

/-- `haltSignal(S, w, S')` (R105; log entry 8). Halting is this report of an ordinary jump, and no
instruction (30_encoding.md R87). -/
def haltSignal (p : Params) (s : State) (w : Word) (s' : State) : Bool :=
  unconditionalJump w
    && (s'.pc == s.pc
      || p.haltIdiom && s'.pc.toNat + 1 == s.pc.toNat
        && s.rom[s'.pc.toNat]? == some (encode (.aInstr s'.pc)))

/-- One CPU step with its report. A fault sets the mark and commits nothing else (R104). No step is
refused, so the last row is never used (log entry 25). -/
def cpuStep (s : State) : StepReport :=
  match step s with
  | .next s'   => .stepped s' (haltSignal params s (s.rom[s.pc.toNat]?.getD 0) s')
  | .fault r   => .faulted (raiseFault r s)
  | .refused _ => .faulted s

/-- What a breakpoint watches (60_exceptions.md R225). -/
inductive Watch
  | a
  | d
  | pc
  | mem (k : Nat)
  deriving DecidableEq, Repr

/-- A breakpoint (60_exceptions.md R225). -/
structure Breakpoint where
  var    : Watch
  target : Word
  deriving DecidableEq, Repr

/-- The data word at an address, as the host reads it (20_memory.md R57); `none` where no region is
mapped. -/
def peek (s : State) (k : Nat) : Option Word := (memRead k s).toOption

/-- `value(var, S)` (60_exceptions.md R226). -/
def Watch.value (v : Watch) (s : State) : Option Word :=
  match v with
  | .a     => some s.a
  | .d     => some s.d
  | .pc    => some s.pc
  | .mem k => peek s k

/-- `bpMatch(S)` (60_exceptions.md R226). -/
def bpMatch (bps : List Breakpoint) (s : State) : Bool :=
  bps.any fun b => b.var.value s == some b.target

/-- How a run ends (60_exceptions.md R230). -/
inductive RunResult
  | halted
  | notHalted
  | faulted
  deriving DecidableEq, Repr

/-- `run(N)` over a given step (60_exceptions.md R227). -/
def runBy (f : State → StepReport) (bps : List Breakpoint) : Nat → State → State × RunResult
  | 0, s => (s, .notHalted)
  | n + 1, s =>
    match f s with
    | .faulted s' => (s', .faulted)
    | .stepped s' halted =>
      if halted || bpMatch bps s' then (s', .halted) else runBy f bps n s'

/-- `run(N)` (60_exceptions.md R227). -/
def run (bps : List Breakpoint) (n : Nat) (s : State) : State × RunResult :=
  runBy cpuStep bps n s

end Sys2Proof.Machine
end

