-- ==== Sys2Proof/Machine/Cycle.lean ====
section
/-! DEFINITION. The step as 40_execution_cycle.md R100 writes it, on the fields of the word, for any
parameters. The machine's own step is `step`, whose instructions have a meaning each; this one is
what it is compared with, and where the parameters' other values are run. -/

namespace Sys2Proof.Machine

/-- `take` of R100, on the bits of the jump selector. -/
def takeBits (jlt jeq jgt : Bool) (out : Word) : Bool :=
  jlt && ng out || jeq && zr out || jgt && !zr out && !ng out

/-- The step of R100 with the parameters `p`. -/
def cycle (p : Params) (s : State) : StepReport :=
  if s.fault ≠ none then .faulted s else
  match romRead s.pc s with
  | .error r => .faulted (raiseFault r s)
  | .ok w =>
    match viewOfWord w with
    | .a value =>
      let s' := { s with a := value, pc := s.pc + 1 }
      .stepped s' (haltSignal p s w s')
    | .c _ src code dest jump =>
      match if src = .m then memRead s.a.toNat s else .ok s.a with
      | .error r => .faulted (raiseFault r s)
      | .ok y =>
        let out := aluResult p src code s.d y
        match if dest.m then memWrite s.a.toNat out s else .ok s with
        | .error r => .faulted (raiseFault r s)
        | .ok t =>
          let a' := if dest.a then out else s.a
          let d' := if dest.d then out else s.d
          let pc' := if takeBits jump.lt jump.eq jump.gt out
            then jumpTarget p.jumpTargetSource s.a a' else s.pc + 1
          let s' := { t with a := a', d := d', pc := pc' }
          .stepped s' (haltSignal p s w s')

end Sys2Proof.Machine
end

