-- ==== Sys2Proof/Machine/Display.lean ====
section
/-! DEFINITION. The host's outputs (60_exceptions.md R231): the memory contents, the screen's pixels,
and the listing of the decoded ROM (30_encoding.md R88). No rule of execution reads them. -/

namespace Sys2Proof.Machine

/-- The assembler's mnemonic of a canonical comp (30_encoding.md R77). -/
def compMnemonic (src : Operand) (k : Ctl) : Option String :=
  match src, k with
  | .a, ⟨true, false, true, false, true, false⟩ => some "0"
  | .a, ⟨true, true, true, true, true, true⟩ => some "1"
  | .a, ⟨true, true, true, false, true, false⟩ => some "-1"
  | .a, ⟨false, false, true, true, false, false⟩ => some "D"
  | .a, ⟨true, true, false, false, false, false⟩ => some "A"
  | .m, ⟨true, true, false, false, false, false⟩ => some "M"
  | .a, ⟨false, false, true, true, false, true⟩ => some "!D"
  | .a, ⟨true, true, false, false, false, true⟩ => some "!A"
  | .m, ⟨true, true, false, false, false, true⟩ => some "!M"
  | .a, ⟨false, false, true, true, true, true⟩ => some "-D"
  | .a, ⟨true, true, false, false, true, true⟩ => some "-A"
  | .m, ⟨true, true, false, false, true, true⟩ => some "-M"
  | .a, ⟨false, true, true, true, true, true⟩ => some "D+1"
  | .a, ⟨true, true, false, true, true, true⟩ => some "A+1"
  | .m, ⟨true, true, false, true, true, true⟩ => some "M+1"
  | .a, ⟨false, false, true, true, true, false⟩ => some "D-1"
  | .a, ⟨true, true, false, false, true, false⟩ => some "A-1"
  | .m, ⟨true, true, false, false, true, false⟩ => some "M-1"
  | .a, ⟨false, false, false, false, true, false⟩ => some "D+A"
  | .m, ⟨false, false, false, false, true, false⟩ => some "D+M"
  | .a, ⟨false, true, false, false, true, true⟩ => some "D-A"
  | .m, ⟨false, true, false, false, true, true⟩ => some "D-M"
  | .a, ⟨false, false, false, true, true, true⟩ => some "A-D"
  | .m, ⟨false, false, false, true, true, true⟩ => some "M-D"
  | .a, ⟨false, false, false, false, false, false⟩ => some "D&A"
  | .m, ⟨false, false, false, false, false, false⟩ => some "D&M"
  | .a, ⟨false, true, false, true, false, true⟩ => some "D|A"
  | .m, ⟨false, true, false, true, false, true⟩ => some "D|M"
  | _, _ => none

/-- The mnemonic of a destination field (30_encoding.md R78), with its `=`. -/
def destText (d : Dest) : String :=
  match d.a, d.d, d.m with
  | false, false, false => ""
  | false, false, true  => "M="
  | false, true,  false => "D="
  | false, true,  true  => "MD="
  | true,  false, false => "A="
  | true,  false, true  => "AM="
  | true,  true,  false => "AD="
  | true,  true,  true  => "AMD="

/-- The mnemonic of a jump field (30_encoding.md R79), with its `;`. -/
def jumpText (j : Jump) : String :=
  match j with
  | .never => ""
  | .jgt   => ";JGT"
  | .jeq   => ";JEQ"
  | .jge   => ";JGE"
  | .jlt   => ";JLT"
  | .jne   => ";JNE"
  | .jle   => ";JLE"
  | .jmp   => ";JMP"

/-- A bit as the digit `0` or `1`. -/
def bitText (b : Bool) : String := if b then "1" else "0"

/-- `ALU[a,cccccc]`, the spelling of a comp field that has no mnemonic (30_encoding.md R88). -/
def aluText (src : Operand) (k : Ctl) : String :=
  "ALU[" ++ bitText src.bit ++ "," ++ bitText k.zx ++ bitText k.nx ++ bitText k.zy
    ++ bitText k.ny ++ bitText k.f ++ bitText k.no ++ "]"

/-- The listing's line for an instruction word (30_encoding.md R88; log entry 26). -/
def listingLine (w : Word) : String :=
  match viewOfWord w with
  | .a value => "@" ++ toString value.toNat
  | .c _ src code dest jump =>
    destText dest ++ (compMnemonic src code).getD (aluText src code) ++ jumpText jump

/-- The decoded ROM, for listings (60_exceptions.md R231). -/
def listing (s : State) : List String := s.rom.map listingLine

/-- Pixel (row, column) of the screen, `true` for black, as the renderer reads it (20_memory.md R46;
log entry 22); `none` outside the screen. -/
def pixel (s : State) (r c : Nat) : Option Bool :=
  if r < screenRows ∧ c < 16 * screenWordsPerRow then
    (peek s (screenBase + screenWordsPerRow * r + c / 16)).map (·.getLsbD (c % 16))
  else none

end Sys2Proof.Machine
end

