-- ==== Sys2Proof/Machine/Notation.lean ====
section
/-! DEFINITION. The words that lines of the assembly notation stand for (30_encoding.md R83, R84, R87),
their symbols resolved. The assembler that resolves them is out of scope (00_scope.md R4). -/

namespace Sys2Proof.Machine

/-- A line of the notation. There is no third kind: the instruction set has no pseudo-instruction
(R87). -/
inductive SourceLine
  /-- an instruction line (R83, R84); a C-instruction the notation spells has `u = 11`, and nothing
  here depends on it -/
  | instruction (i : Instr)
  /-- a label line `(NAME)`, the only pseudo-command (R85, R87) -/
  | label (name : String)
  deriving DecidableEq, Repr

/-- The words a line emits: an instruction line is one machine word, a label line none (R87). -/
def SourceLine.words : SourceLine → List Word
  | .instruction i => [encode i]
  | .label _ => []

/-- The instruction of a line. -/
def SourceLine.instr? : SourceLine → Option Instr
  | .instruction i => some i
  | .label _ => none

/-- The words that lines emit, in their order. -/
def emitted (lines : List SourceLine) : List Word := lines.flatMap SourceLine.words

end Sys2Proof.Machine
end

