-- ==== Sys2Proof/Machine/Loader.lean ====
section
/-! DEFINITION. From a load request to the words of a program (70_reset_and_hazards.md R252, R253).
The translation of assembly and VM text is out of scope (00_scope.md R4): its result is given. -/

namespace Sys2Proof.Machine

/-- Why a load fails. -/
inductive LoadError
  /-- "malformed binary length" (R253) -/
  | malformedLength
  /-- a text line with a character that is no binary digit (log entry 18) -/
  | malformedText
  /-- the assembler or the VM translator failed (log entry 21) -/
  | translationFailed
  /-- ROM_LEN >= 1 (R252) -/
  | emptyProgram
  /-- ROM_LEN <= ROM_MAX (00_scope.md R5; log entry 14) -/
  | programTooLong
  deriving DecidableEq, Repr

/-- The kinds of program contents (R252). -/
inductive LoadRequest
  | rawBinary (format : BinaryFormat) (contents : List Byte)
  | assembly (translated : Option (List Word))
  | vm (translated : Option (List Word))
  deriving DecidableEq, Repr

/-- Two bytes a word, the high byte first. -/
def wordsOfBigEndian : List Byte → Except LoadError (List Word)
  | [] => .ok []
  | [_] => .error .malformedLength
  | hi :: lo :: rest => (wordsOfBigEndian rest).map ((hi ++ lo) :: ·)

/-- Two bytes a word, the low byte first. -/
def wordsOfLittleEndian : List Byte → Except LoadError (List Word)
  | [] => .ok []
  | [_] => .error .malformedLength
  | lo :: hi :: rest => (wordsOfLittleEndian rest).map ((hi ++ lo) :: ·)

/-- Lines of 16 characters `0` or `1`, the high bit first, with `n` characters of the current line
read into `w` (log entry 18). -/
def wordsOfText : List Byte → Nat → Word → Except LoadError (List Word)
  | [], n, w =>
    if n = 0 then .ok [] else if n = 16 then .ok [w] else .error .malformedLength
  | c :: rest, n, w =>
    if c = 0x0A then
      if n = 16 then (wordsOfText rest 0 0).map (w :: ·) else .error .malformedLength
    else if c = 0x30 then wordsOfText rest (n + 1) (w <<< 1)
    else if c = 0x31 then wordsOfText rest (n + 1) (w <<< 1 ||| 1)
    else .error .malformedText

/-- The words a load request spells. -/
def LoadRequest.words : LoadRequest → Except LoadError (List Word)
  | .rawBinary .bigEndianBytes bytes    => wordsOfBigEndian bytes
  | .rawBinary .littleEndianBytes bytes => wordsOfLittleEndian bytes
  | .rawBinary .textLines bytes         => wordsOfText bytes 0 0
  | .assembly none                      => .error .translationFailed
  | .assembly (some ws)                 => .ok ws
  | .vm none                            => .error .translationFailed
  | .vm (some ws)                       => .ok ws

/-- A program has 1 to ROM_MAX words (00_scope.md R5). -/
def checkLength (ws : List Word) : Except LoadError (List Word) :=
  if ws.length = 0 then .error .emptyProgram
  else if romMax < ws.length then .error .programTooLong
  else .ok ws

/-- The program a load makes live, or the reason the load fails (R252). -/
def LoadRequest.program (r : LoadRequest) : Except LoadError (List Word) :=
  match r.words with
  | .error e => .error e
  | .ok ws => checkLength ws

end Sys2Proof.Machine
end

