-- ==== Sys2Proof/Machine/Session.lean ====
section
/-! DEFINITION. The debugging session and the host's moves (60_exceptions.md R224 to R231). The
breakpoints and the stepper's state are not CPU state (10_state.md R33). -/

namespace Sys2Proof.Machine

/-- The stepper's states (R229). -/
inductive Stepper
  | stopped
  | running
  | halted
  deriving DecidableEq, Repr

/-- The CPU with the debugger's state. `breakpoints` is a set: a list with no repeats (log entry
20). -/
structure Session where
  cpu         : State
  breakpoints : List Breakpoint
  stepper     : Stepper
  deriving DecidableEq, Repr

/-- The session before any load or reset: no program (log entry 1), no breakpoints (log entry 20), and
the stepper Stopped, the model's DESIGN CHOICE, since R229 gives Stopped only after a reset or a load
(log entry 29). -/
def Session.initial : Session := { cpu := State.reset, breakpoints := [], stepper := .stopped }

/-- A breakpoint on `Mem[k]` is accepted only for a mapped `k` (R225). -/
def Breakpoint.acceptable (b : Breakpoint) : Bool :=
  match b.var with
  | .a     => true
  | .d     => true
  | .pc    => true
  | .mem k => k ≤ kbdAddr

/-- Registration of a breakpoint; one on an unmapped cell is refused and changes nothing (R225). -/
def Session.addBreakpoint (b : Breakpoint) (ss : Session) : Session :=
  if b.acceptable && !ss.breakpoints.contains b then
    { ss with breakpoints := b :: ss.breakpoints }
  else ss

/-- Removal of a breakpoint (R224; log entry 20). -/
def Session.removeBreakpoint (b : Breakpoint) (ss : Session) : Session :=
  { ss with breakpoints := ss.breakpoints.filter (· ≠ b) }

/-- `load(kind, contents)`: a new program and a reset, or nothing (70_reset_and_hazards.md R252; log
entry 17). -/
def Session.load (r : LoadRequest) (ss : Session) : Session :=
  match r.program with
  | .error _ => ss
  | .ok ws => { ss with cpu := State.loaded ws, stepper := .stopped }

/-- The reset request (70_reset_and_hazards.md R250; R229). -/
def Session.reset (ss : Session) : Session :=
  { ss with cpu := resetCpu ss.cpu, stepper := .stopped }

/-- The keyboard input (20_memory.md R49). -/
def Session.setKeyboard (v : Word) (ss : Session) : Session :=
  { ss with cpu := Machine.setKeyboard v ss.cpu }

/-- A run request: Stopped to Running, and Halted to Running (R229). -/
def Session.runRequest (ss : Session) : Session := { ss with stepper := .running }

/-- A pause request: Running to Stopped (R229; log entry 19). -/
def Session.pauseRequest (ss : Session) : Session :=
  { ss with stepper := if ss.stepper = .running then .stopped else ss.stepper }

/-- The stepper after `run(N)`: Halted on a halt or a fault, and Running to Stopped when the budget is
exhausted (R229; log entry 19). -/
def Stepper.afterRun (r : RunResult) (st : Stepper) : Stepper :=
  match r with
  | .halted    => .halted
  | .faulted   => .halted
  | .notHalted => if st = .running then .stopped else st

/-- `run(N)` and what it returns (R227). -/
def Session.runResult (n : Nat) (ss : Session) : RunResult := (run ss.breakpoints n ss.cpu).2

/-- `run(N)` (R227). -/
def Session.run (n : Nat) (ss : Session) : Session :=
  { ss with
    cpu := (Machine.run ss.breakpoints n ss.cpu).1
    stepper := Stepper.afterRun (ss.runResult n) ss.stepper }

/-- `step()`: one CPU step, followed by the halt and breakpoint tests (R224, R226). The budget is not
a step's, so a step that does not halt leaves the stepper as it was (log entry 19). -/
def Session.step (ss : Session) : Session :=
  { ss with
    cpu := (Machine.run ss.breakpoints 1 ss.cpu).1
    stepper := if ss.runResult 1 = .notHalted then ss.stepper else .halted }

/-- A single-step request is `run(1)` (R228), asked for and run (log entry 19). -/
def Session.singleStep (ss : Session) : Session := ss.runRequest.run 1

/-- The host's moves (R224). -/
inductive HostMove
  | load (r : LoadRequest)
  | reset
  | setKeyboard (v : Word)
  | step
  | run (n : Nat)
  | addBreakpoint (b : Breakpoint)
  | removeBreakpoint (b : Breakpoint)
  | runRequest
  | pauseRequest
  | singleStep
  | readState
  deriving DecidableEq, Repr

/-- The session after a host move. A move happens between two steps (40_execution_cycle.md R106), and
reading the state changes nothing (10_state.md R34). -/
def Session.move (m : HostMove) (ss : Session) : Session :=
  match m with
  | .load r             => ss.load r
  | .reset              => ss.reset
  | .setKeyboard v      => ss.setKeyboard v
  | .step               => ss.step
  | .run n              => ss.run n
  | .addBreakpoint b    => ss.addBreakpoint b
  | .removeBreakpoint b => ss.removeBreakpoint b
  | .runRequest         => ss.runRequest
  | .pauseRequest       => ss.pauseRequest
  | .singleStep         => ss.singleStep
  | .readState          => ss

/-- The session after a sequence of host moves: an execution (20_memory.md R54;
40_execution_cycle.md R107). -/
def Session.moves (ms : List HostMove) (ss : Session) : Session :=
  ms.foldl (fun t m => t.move m) ss

end Sys2Proof.Machine
end

