-- ==== Sys2Proof/Safety.lean ====
section
/-! DEFINITION. What counts as a safe run, and the terms the claims are stated in. -/

namespace Sys2Proof.Machine

/-! ## Safe runs -/

/-- The invariant of the CPU state: both memories in canonical form and inside their regions, and a
program no longer than ROM_MAX (00_scope.md R5). -/
abbrev State.WF (s : State) : Prop :=
  Memory.wf ramWords s.ram ∧ Memory.wf screenWords s.screen ∧ s.rom.length ≤ romMax

/-- The invariant of the session: the CPU's, and a set of accepted breakpoints (60_exceptions.md
R225). -/
abbrev Session.WF (ss : Session) : Prop :=
  ss.cpu.WF ∧ ss.breakpoints.Nodup ∧ ∀ b ∈ ss.breakpoints, b.acceptable = true

/-- A state a program load creates: the launch state of a run (10_state.md R32). -/
def Launch (program : List Word) (s : State) : Prop :=
  checkLength program = .ok program ∧ s = State.loaded program

/-- A run that does not end FAULTED. A faulted state is the failure of every claim that does not
assume it away (60_exceptions.md R211). -/
def SafeRun (bps : List Breakpoint) (n : Nat) (s : State) : Prop := (run bps n s).2 ≠ .faulted

/-- `t` is a final state of a run of `n` steps: it ended HALTED with no fault (60_exceptions.md
R230). -/
def Final (bps : List Breakpoint) (n : Nat) (s t : State) : Prop :=
  run bps n s = (t, .halted) ∧ t.fault = none

/-! ## The terms of the claims -/

/-- An address of RAM, SCREEN or KBD (20_memory.md R42). -/
abbrev Mapped (addr : Nat) : Prop := addr ≤ 24576

/-- The field of a destination (30_encoding.md R78). -/
def destField (dest : Dest) : BitVec 3 :=
  match dest with
  | ⟨false, false, false⟩ => 0b000
  | ⟨false, false, true⟩  => 0b001
  | ⟨false, true, false⟩  => 0b010
  | ⟨false, true, true⟩   => 0b011
  | ⟨true, false, false⟩  => 0b100
  | ⟨true, false, true⟩   => 0b101
  | ⟨true, true, false⟩   => 0b110
  | ⟨true, true, true⟩    => 0b111

/-- The field of a jump (30_encoding.md R79). -/
def jumpField (j : Jump) : BitVec 3 :=
  match j with
  | .never => 0b000
  | .jgt   => 0b001
  | .jeq   => 0b010
  | .jge   => 0b011
  | .jlt   => 0b100
  | .jne   => 0b101
  | .jle   => 0b110
  | .jmp   => 0b111

/-- The word of a C-instruction, from the values of its fields (30_encoding.md R72). -/
def cWord (u : BitVec 2) (comp : BitVec 7) (dest : Dest) (jump : Jump) : Word :=
  1#1 ++ u ++ comp ++ destField dest ++ jumpField jump

/-- The jump conditions as the source words them, on `sint(out)` (30_encoding.md R79). -/
def JumpHolds (j : Jump) (out : Word) : Prop :=
  match j with
  | .never => False
  | .jgt   => 0 < out.toInt
  | .jeq   => out = 0
  | .jge   => 0 ≤ out.toInt
  | .jlt   => out.toInt < 0
  | .jne   => out ≠ 0
  | .jle   => out.toInt ≤ 0
  | .jmp   => True

/-- `y` is the second operand of a C-instruction in a state (42_c_alu.md R130). -/
def OperandIs (src : Operand) (s : State) (y : Word) : Prop :=
  match src with
  | .a => y = s.a
  | .m => peek s s.a.toNat = some y

/-- `t` is `s` with the destinations and the jump done on `out`, and with everything else unchanged
(43_c_dest_jump.md R180 to R194). The address stored to is `uint(A)` of `s` (R183). -/
structure CommitsOut (dest : Dest) (jump : Jump) (out : Word) (s t : State) : Prop where
  a         : t.a = if dest.a then out else s.a
  d         : t.d = if dest.d then out else s.d
  jumps     : JumpHolds jump out → t.pc = jumpTarget params.jumpTargetSource s.a t.a
  falls     : ¬ JumpHolds jump out → t.pc = s.pc + 1
  stores    : dest.m = true → s.a.toNat < 24576 → peek t s.a.toNat = some out
  keeps     : ∀ k, (dest.m = true → k ≠ s.a.toNat) → peek t k = peek s k
  keepsKbd  : t.kbd = s.kbd
  keepsRom  : t.rom = s.rom
  keepsMark : t.fault = s.fault

/-- The rule of one comp value, as the rules of 42_c_alu.md are laid out: its encoding, what it does
when the addresses it accesses are mapped, and its faults when they are not. -/
def CompRule (i : BitVec 2 → Dest → Jump → Instr) (src : Operand) (comp : BitVec 7)
    (f : Word → Word → Word) : Prop :=
  ∀ (u : BitVec 2) (dest : Dest) (jump : Jump),
    encode (i u dest jump) = cWord u comp dest jump ∧
    ∀ s : State, s.WF →
      ((src = .m ∨ dest.m = true → Mapped s.a.toNat) →
        ∃ y t, OperandIs src s y ∧ exec (i u dest jump) s = .next t ∧
          CommitsOut dest jump (f s.d y) s t) ∧
      (src = .m → ¬ Mapped s.a.toNat →
        exec (i u dest jump) s = .fault (.readOutOfRange s.a.toNat)) ∧
      (src = .a → dest.m = true → ¬ Mapped s.a.toNat →
        exec (i u dest jump) s = .fault (.writeOutOfRange s.a.toNat))

/-- The bytes of a word, high first (70_reset_and_hazards.md R253). -/
def bigEndianOf (w : Word) : List Byte := [w.extractLsb' 8 8, w.extractLsb' 0 8]

/-- The bytes of a word, low first (70_reset_and_hazards.md R253). -/
def littleEndianOf (w : Word) : List Byte := [w.extractLsb' 0 8, w.extractLsb' 8 8]

/-- A word as a line of 16 binary digits, high bit first (70_reset_and_hazards.md R253). -/
def textLineOf (w : Word) : List Byte :=
  (List.range 16).map (fun n => if w.getLsbD (15 - n) then 0x31 else 0x30) ++ [0x0A]

end Sys2Proof.Machine
end

