-- ==== Sys2Proof/Certificates/Slice0/Obligations.lean ====
section
/-! DEFINITION. The statements for the provers. -/

namespace Sys2Proof.Machine

/-- The comp, stored in D, leaves there the low 16 bits of the exact result `g` of the operands D and
A, from either reading of them (42_c_alu.md R163). -/
def Wraps (i : BitVec 2 → Dest → Jump → Instr) (g : Int → Int → Int) : Prop :=
  ∀ (u : BitVec 2) (s : State),
    exec (i u ⟨false, true, false⟩ .never) s =
      .next { s with d := BitVec.ofInt 16 (g s.d.toInt s.a.toInt), pc := s.pc + 1 } ∧
    BitVec.ofInt 16 (g s.d.toInt s.a.toInt) = BitVec.ofInt 16 (g s.d.toNat s.a.toNat)

/-- The same of the operands D and M, where A is mapped. -/
def WrapsM (i : BitVec 2 → Dest → Jump → Instr) (g : Int → Int → Int) : Prop :=
  ∀ (u : BitVec 2) (s : State) (m : Word), peek s s.a.toNat = some m →
    exec (i u ⟨false, true, false⟩ .never) s =
      .next { s with d := BitVec.ofInt 16 (g s.d.toInt m.toInt), pc := s.pc + 1 } ∧
    BitVec.ofInt 16 (g s.d.toInt m.toInt) = BitVec.ofInt 16 (g s.d.toNat m.toNat)

end Sys2Proof.Machine

open Sys2Proof Sys2Proof.Machine

/-- encode of an A-instruction is 0 ++ value[14:0]; encode of a C-instruction is 1 ++ u ++ a ++ c ++
dest ++ jump from its decoded view; encode (decode w) = w for every word w; and decode is
injective. The order of the fields is general knowledge (log entry 5), and that a word with any u
is valid and keeps its u is the spec's own decision D8 (log entry 13). [30_encoding.md section 2;
92_eei_decisions.md D8; 90_conflicts.md C4; log entry 5; log entry 13] -/
def Obligations.EncodeInvertsDecodeOnEveryWord : Prop :=
  (∀ v : Word, encode (.aInstr v) = 0#1 ++ v.extractLsb' 0 15) ∧
  (∀ i u src k dest jump, i.view = .c u src k dest jump →
    encode i = 1#1 ++ u ++ BitVec.ofBool (src == .m) ++ BitVec.ofBool k.zx ++ BitVec.ofBool k.nx
      ++ BitVec.ofBool k.zy ++ BitVec.ofBool k.ny ++ BitVec.ofBool k.f ++ BitVec.ofBool k.no
      ++ destField dest ++ jumpField jump) ∧
  (∀ w : Word, encode (decode w) = w) ∧
  ∀ w w' : Word, decode w = decode w' → w = w'

/-- For every well-formed instruction i with every operand at every value its encoding admits, decode
(encode i) = i; and every word decodes to a well-formed instruction. [30_encoding.md section 2
(rules R74, R76 read from the instruction side)] -/
def Obligations.DecodeInvertsEncodeOnWellFormed : Prop :=
  (∀ i : Instr, i.wellFormed = true → decode (encode i) = i) ∧
  ∀ w : Word, (decode w).wellFormed = true

/-- A word with bit 15 clear decodes to the A-instruction of its low 15 bits, zero-extended; a word
with bit 15 set decodes to the C-instruction with u = w[14:13], a = w[12], c = w[11:6], dest =
w[5:3], jump = w[2:0]. The places of the fields are general knowledge (log entry 5), and that u is
kept is the spec's own decision D8 (log entry 13). [30_encoding.md section 1; 30_encoding.md
section 2; 92_eei_decisions.md D8; log entry 5; log entry 13] -/
def Obligations.DecodeExposesEveryField : Prop :=
  ∀ w : Word,
    (w.getLsbD 15 = false → decode w = .aInstr (0#1 ++ w.extractLsb' 0 15)) ∧
    (w.getLsbD 15 = true → ∃ src k dest jump,
      (decode w).view = .c (w.extractLsb' 13 2) src k dest jump ∧
      (src = .m ↔ w.getLsbD 12 = true) ∧
      k = ⟨w.getLsbD 11, w.getLsbD 10, w.getLsbD 9, w.getLsbD 8, w.getLsbD 7, w.getLsbD 6⟩ ∧
      dest = ⟨w.getLsbD 5, w.getLsbD 4, w.getLsbD 3⟩ ∧
      jumpField jump = w.extractLsb' 0 3)

/-- The ten words of 95_test_vectors.md section 2.1 decode to the instructions whose fields that table
gives. [95_test_vectors.md section 2.1] -/
def Obligations.SpecWordsDecodeAsListed : Prop :=
  decode 0x0000 = .aInstr 0 ∧
  decode 0x7FFF = .aInstr 32767 ∧
  decode 0x0011 = .aInstr 17 ∧
  decode 0xEC10 = .compA 0b11 ⟨false, true, false⟩ .never ∧
  decode 0xFCA8 = .compMMinus1 0b11 ⟨true, false, true⟩ .never ∧
  decode 0xEA87 = .compZero 0b11 ⟨false, false, false⟩ .jmp ∧
  decode 0x8000 = .compDAndA 0b00 ⟨false, false, false⟩ .never ∧
  decode 0x9C10 = .compM 0b00 ⟨false, true, false⟩ .never ∧
  decode 0xFFFF = .alu1_111111 0b11 ⟨true, true, true⟩ .jmp ∧
  decode 0xE050 = .alu0_000001 0b11 ⟨false, true, false⟩ .never

/-- Two words with bit 15 set that agree on bits 12:0 have the same outcome from every state. The
clause is the spec's own decision D8 (log entry 13). [30_encoding.md section 2;
92_eei_decisions.md D8] -/
def Obligations.UnusedBitsNeverAffectExecution : Prop :=
  ∀ w w' : Word, w.getLsbD 15 = true → w'.getLsbD 15 = true →
    w.extractLsb' 0 13 = w'.extractLsb' 0 13 →
    ∀ s, exec (decode w) s = exec (decode w') s

/-- exec never answers a refusal, for any instruction and state, and so neither does step: no encoding
is illegal or reserved. [30_encoding.md section 4] -/
def Obligations.NoInstructionIsRefused : Prop :=
  (∀ i s r, exec i s ≠ .refused r) ∧ ∀ s r, step s ≠ .refused r

/-- If there is no fault mark and ROM holds a word at PC, step is exec of its decoding; if that word
is the encoding of a well-formed instruction i, step is exec of i. [40_execution_cycle.md section
1] -/
def Obligations.StepFetchesAndExecutesTheWordAtPc : Prop :=
  ∀ s : State, s.fault = none →
    (∀ w, s.rom[s.pc.toNat]? = some w → step s = exec (decode w) s) ∧
    ∀ i, i.wellFormed = true → s.rom[s.pc.toNat]? = some (encode i) → step s = exec i s

/-- From a state with no fault mark whose PC is ROM_LEN or more, step is the fault
FETCH_OUT_OF_RANGE(PC). This is the spec's own decision D1 (log entry 14). [20_memory.md section
3; 92_eei_decisions.md D1] -/
def Obligations.FetchPastTheProgramFaults : Prop :=
  ∀ s : State, s.fault = none → s.rom.length ≤ s.pc.toNat → step s = .fault (.fetchOutOfRange s.pc)

/-- With the fault mark set, step answers the recorded fault, the CPU step leaves the state as it is,
and run(N) for N > 0 returns FAULTED there. This is the spec's own decision D16; that the outcome
repeats the recorded fault is the model's choice (log entry 9). [60_exceptions.md section 1;
92_eei_decisions.md D16] -/
def Obligations.FaultedStateTakesNoStep : Prop :=
  ∀ (s : State) (r : Fault), s.fault = some r →
    step s = .fault r ∧ cpuStep s = .faulted s ∧
    ∀ bps n, run bps (n + 1) s = (s, .faulted)

/-- For every state, the CPU step with its halt report, made of one meaning per instruction, equals
the step of R100: fetch, decode, operand read, ALU formula, jump on the selector bits, write-back,
report. Both sides take the parameters at the spec's own values: JUMP_TARGET_SOURCE = PRE_A (D7,
log entry 6), ALU_NONCANONICAL = the formula (D9, log entry 7), HALT_IDIOM = false (D11, log entry
8); the faults and the faulted state are its decisions D1, D3, D4 and D16 (log entries 9, 14); and
both follow its decisions D5, D6, D8, D10 and D15 (log entries 10, 12, 13, 11, 15).
[40_execution_cycle.md section 1; 92_eei_decisions.md D1, D3, D4, D5, D6, D7, D8, D9, D10, D11,
D15, D16; log entries 6 to 15] -/
def Obligations.StepIsTheExecutionCycle : Prop :=
  ∀ s : State, cpuStep s = cycle params s

/-- For every state and every immediate 0..32767, exec of @v answers the state with A = v and PC + 1
and every other field as before; its word is 0 ++ v[14:0]; A is then not negative; a step that
executed this word never reports halted. [R120] -/
def Obligations.AInstructionLoadsItsImmediate : Prop :=
  ∀ (v : Word) (s : State), v.toNat < 32768 →
    encode (.aInstr v) = 0#1 ++ v.extractLsb' 0 15 ∧
    exec (.aInstr v) s = .next { s with a := v, pc := s.pc + 1 } ∧
    v.getLsbD 15 = false ∧
    ∀ p s', haltSignal p s (encode (.aInstr v)) s' = false

/-- Each comp: its encoding; with the addresses it accesses mapped, exec answers a next state in which
the destinations and the jump are done on out and nothing else changes; otherwise its read or
write fault. Comps: 0 (R133), 1 (R134), -1 (R135). The clauses that rest on a choice: M is read
and stored at the old A (D6, log entry 12), the jump target is PRE_A (D7, entry 6), a write to KBD
is discarded (D5, entry 10), the faults (D3, D4, entry 9), u is ignored (D8, entry 13), PC is 16
bits wide (D15, entry 15), the memory map (D2, entry 4), the bit patterns (general knowledge,
entry 5). [42_c_alu.md section 3; 43_c_dest_jump.md sections 1, 2 and 3; 20_memory.md section 2;
60_exceptions.md section 1; 92_eei_decisions.md D2, D3, D4, D5, D6, D7, D8, D15; log entries 4, 5,
6, 9, 10, 12, 13, 15] -/
def Obligations.ConstantCompsPutAConstant : Prop :=
  CompRule .compZero .a 0b0101010 (fun _ _ => 0x0000) ∧
  CompRule .compOne .a 0b0111111 (fun _ _ => 0x0001) ∧
  CompRule .compNegOne .a 0b0111010 (fun _ _ => 0xFFFF)

/-- Each comp: its encoding; with the addresses it accesses mapped, exec answers a next state in which
the destinations and the jump are done on out and nothing else changes; otherwise its read or
write fault. Comps: D (R136), !D (R139), -D (R142), D+1 (R145), D-1 (R148). The clauses that rest
on a choice: M is read and stored at the old A (D6, log entry 12), the jump target is PRE_A (D7,
entry 6), a write to KBD is discarded (D5, entry 10), the faults (D3, D4, entry 9), u is ignored
(D8, entry 13), PC is 16 bits wide (D15, entry 15), the memory map (D2, entry 4), the bit patterns
(general knowledge, entry 5). [42_c_alu.md section 3; 43_c_dest_jump.md sections 1, 2 and 3;
20_memory.md section 2; 60_exceptions.md section 1; 92_eei_decisions.md D2, D3, D4, D5, D6, D7,
D8, D15; log entries 4, 5, 6, 9, 10, 12, 13, 15] -/
def Obligations.DataRegisterCompsReadOnlyD : Prop :=
  CompRule .compD .a 0b0001100 (fun x _ => x) ∧
  CompRule .compNotD .a 0b0001101 (fun x _ => ~~~x) ∧
  CompRule .compNegD .a 0b0001111 (fun x _ => 0 - x) ∧
  CompRule .compDPlus1 .a 0b0011111 (fun x _ => x + 1) ∧
  CompRule .compDMinus1 .a 0b0001110 (fun x _ => x - 1)

/-- Each comp: its encoding; with the addresses it accesses mapped, exec answers a next state in which
the destinations and the jump are done on out and nothing else changes; otherwise its read or
write fault. Comps: A (R137), !A (R140), -A (R143), A+1 (R146), A-1 (R149). The clauses that rest
on a choice: M is read and stored at the old A (D6, log entry 12), the jump target is PRE_A (D7,
entry 6), a write to KBD is discarded (D5, entry 10), the faults (D3, D4, entry 9), u is ignored
(D8, entry 13), PC is 16 bits wide (D15, entry 15), the memory map (D2, entry 4), the bit patterns
(general knowledge, entry 5). [42_c_alu.md section 3; 43_c_dest_jump.md sections 1, 2 and 3;
20_memory.md section 2; 60_exceptions.md section 1; 92_eei_decisions.md D2, D3, D4, D5, D6, D7,
D8, D15; log entries 4, 5, 6, 9, 10, 12, 13, 15] -/
def Obligations.AddressRegisterCompsReadA : Prop :=
  CompRule .compA .a 0b0110000 (fun _ y => y) ∧
  CompRule .compNotA .a 0b0110001 (fun _ y => ~~~y) ∧
  CompRule .compNegA .a 0b0110011 (fun _ y => 0 - y) ∧
  CompRule .compAPlus1 .a 0b0110111 (fun _ y => y + 1) ∧
  CompRule .compAMinus1 .a 0b0110010 (fun _ y => y - 1)

/-- Each comp: its encoding; with the addresses it accesses mapped, exec answers a next state in which
the destinations and the jump are done on out and nothing else changes; otherwise its read or
write fault. Comps: M (R138), !M (R141), -M (R144), M+1 (R147), M-1 (R150). The clauses that rest
on a choice: M is read and stored at the old A (D6, log entry 12), the jump target is PRE_A (D7,
entry 6), a write to KBD is discarded (D5, entry 10), the faults (D3, D4, D24, entry 9), u is
ignored (D8, entry 13), PC is 16 bits wide (D15, entry 15), the memory map (D2, entry 4), the bit
patterns (general knowledge, entry 5). [42_c_alu.md section 3; 43_c_dest_jump.md sections 1, 2 and
3; 20_memory.md section 2; 60_exceptions.md section 1; 92_eei_decisions.md D2, D3, D4, D5, D6, D7,
D8, D15, D24; log entries 4, 5, 6, 9, 10, 12, 13, 15] -/
def Obligations.MemoryCompsReadTheWordAtA : Prop :=
  CompRule .compM .m 0b1110000 (fun _ y => y) ∧
  CompRule .compNotM .m 0b1110001 (fun _ y => ~~~y) ∧
  CompRule .compNegM .m 0b1110011 (fun _ y => 0 - y) ∧
  CompRule .compMPlus1 .m 0b1110111 (fun _ y => y + 1) ∧
  CompRule .compMMinus1 .m 0b1110010 (fun _ y => y - 1)

/-- Each comp: its encoding; with the addresses it accesses mapped, exec answers a next state in which
the destinations and the jump are done on out and nothing else changes; otherwise its read or
write fault. Comps: D+A (R151), D-A (R153), A-D (R155), D&A (R157), D|A (R159). The clauses that
rest on a choice: M is read and stored at the old A (D6, log entry 12), the jump target is PRE_A
(D7, entry 6), a write to KBD is discarded (D5, entry 10), the faults (D3, D4, entry 9), u is
ignored (D8, entry 13), PC is 16 bits wide (D15, entry 15), the memory map (D2, entry 4), the bit
patterns (general knowledge, entry 5). [42_c_alu.md section 3; 43_c_dest_jump.md sections 1, 2 and
3; 20_memory.md section 2; 60_exceptions.md section 1; 92_eei_decisions.md D2, D3, D4, D5, D6, D7,
D8, D15; log entries 4, 5, 6, 9, 10, 12, 13, 15] -/
def Obligations.BinaryCompsOfDAndA : Prop :=
  CompRule .compDPlusA .a 0b0000010 (fun x y => x + y) ∧
  CompRule .compDMinusA .a 0b0010011 (fun x y => x - y) ∧
  CompRule .compAMinusD .a 0b0000111 (fun x y => y - x) ∧
  CompRule .compDAndA .a 0b0000000 (fun x y => x &&& y) ∧
  CompRule .compDOrA .a 0b0010101 (fun x y => x ||| y)

/-- Each comp: its encoding; with the addresses it accesses mapped, exec answers a next state in which
the destinations and the jump are done on out and nothing else changes; otherwise its read or
write fault. Comps: D+M (R152), D-M (R154), M-D (R156), D&M (R158), D|M (R160). The clauses that
rest on a choice: M is read and stored at the old A (D6, log entry 12), the jump target is PRE_A
(D7, entry 6), a write to KBD is discarded (D5, entry 10), the faults (D3, D4, D24, entry 9), u is
ignored (D8, entry 13), PC is 16 bits wide (D15, entry 15), the memory map (D2, entry 4), the bit
patterns (general knowledge, entry 5). [42_c_alu.md section 3; 43_c_dest_jump.md sections 1, 2 and
3; 20_memory.md section 2; 60_exceptions.md section 1; 92_eei_decisions.md D2, D3, D4, D5, D6, D7,
D8, D15, D24; log entries 4, 5, 6, 9, 10, 12, 13, 15] -/
def Obligations.BinaryCompsOfDAndM : Prop :=
  CompRule .compDPlusM .m 0b1000010 (fun x y => x + y) ∧
  CompRule .compDMinusM .m 0b1010011 (fun x y => x - y) ∧
  CompRule .compMMinusD .m 0b1000111 (fun x y => y - x) ∧
  CompRule .compDAndM .m 0b1000000 (fun x y => x &&& y) ∧
  CompRule .compDOrM .m 0b1010101 (fun x y => x ||| y)

/-- Each comp: its encoding; with the addresses it accesses mapped, exec answers a next state in which
the destinations and the jump are done on out and nothing else changes; otherwise its read or
write fault. The eight comps of R161 compute the result of their a = 0 form and fault on a read
where A is unmapped. That M is read is the spec's own decision D10 (log entry 11). The clauses
that rest on a choice: M is read and stored at the old A (D6, log entry 12), the jump target is
PRE_A (D7, entry 6), a write to KBD is discarded (D5, entry 10), the faults (D3, D4, D24, entry
9), u is ignored (D8, entry 13), PC is 16 bits wide (D15, entry 15), the memory map (D2, entry 4),
the bit patterns (general knowledge, entry 5). [42_c_alu.md section 4; 43_c_dest_jump.md sections
1, 2 and 3; 20_memory.md section 2; 60_exceptions.md section 1; 92_eei_decisions.md D2, D3, D4,
D5, D6, D7, D8, D10, D15, D24; log entries 4, 5, 6, 9, 10, 11, 12, 13, 15] -/
def Obligations.OperandFreeSpellingsStillReadM : Prop :=
  CompRule .alu1_101010 .m 0b1101010 (fun _ _ => 0x0000) ∧
  CompRule .alu1_111111 .m 0b1111111 (fun _ _ => 0x0001) ∧
  CompRule .alu1_111010 .m 0b1111010 (fun _ _ => 0xFFFF) ∧
  CompRule .alu1_001100 .m 0b1001100 (fun x _ => x) ∧
  CompRule .alu1_001101 .m 0b1001101 (fun x _ => ~~~x) ∧
  CompRule .alu1_001111 .m 0b1001111 (fun x _ => 0 - x) ∧
  CompRule .alu1_011111 .m 0b1011111 (fun x _ => x + 1) ∧
  CompRule .alu1_001110 .m 0b1001110 (fun x _ => x - 1)

/-- Each comp: its encoding; with the addresses it accesses mapped, exec answers a next state in which
the destinations and the jump are done on out and nothing else changes; otherwise its read or
write fault. The 46 non-canonical codes on D and A have the closed forms of the R162 table. The
result of these codes is the spec's own decision D9 (log entry 7). The clauses that rest on a
choice: M is read and stored at the old A (D6, log entry 12), the jump target is PRE_A (D7, entry
6), a write to KBD is discarded (D5, entry 10), the faults (D3, D4, entry 9), u is ignored (D8,
entry 13), PC is 16 bits wide (D15, entry 15), the memory map (D2, entry 4), the bit patterns
(general knowledge, entry 5). [42_c_alu.md section 4; 43_c_dest_jump.md sections 1, 2 and 3;
20_memory.md section 2; 60_exceptions.md section 1; 92_eei_decisions.md D2, D3, D4, D5, D6, D7,
D8, D9, D15; log entries 4, 5, 6, 7, 9, 10, 12, 13, 15] -/
def Obligations.NoncanonicalCompsOnA : Prop :=
  CompRule .alu0_000001 .a 0b0000001 (fun x y => ~~~(x &&& y)) ∧
  CompRule .alu0_000011 .a 0b0000011 (fun x y => -x - y - 1) ∧
  CompRule .alu0_000100 .a 0b0000100 (fun x y => x &&& ~~~y) ∧
  CompRule .alu0_000101 .a 0b0000101 (fun x y => ~~~x ||| y) ∧
  CompRule .alu0_000110 .a 0b0000110 (fun x y => x - y - 1) ∧
  CompRule .alu0_001000 .a 0b0001000 (fun _ _ => 0x0000) ∧
  CompRule .alu0_001001 .a 0b0001001 (fun _ _ => 0xFFFF) ∧
  CompRule .alu0_001010 .a 0b0001010 (fun x _ => x) ∧
  CompRule .alu0_001011 .a 0b0001011 (fun x _ => ~~~x) ∧
  CompRule .alu0_010000 .a 0b0010000 (fun x y => ~~~x &&& y) ∧
  CompRule .alu0_010001 .a 0b0010001 (fun x y => x ||| ~~~y) ∧
  CompRule .alu0_010010 .a 0b0010010 (fun x y => y - x - 1) ∧
  CompRule .alu0_010100 .a 0b0010100 (fun x y => ~~~(x ||| y)) ∧
  CompRule .alu0_010110 .a 0b0010110 (fun x y => -x - y - 2) ∧
  CompRule .alu0_010111 .a 0b0010111 (fun x y => x + y + 1) ∧
  CompRule .alu0_011000 .a 0b0011000 (fun _ _ => 0x0000) ∧
  CompRule .alu0_011001 .a 0b0011001 (fun _ _ => 0xFFFF) ∧
  CompRule .alu0_011010 .a 0b0011010 (fun x _ => ~~~x) ∧
  CompRule .alu0_011011 .a 0b0011011 (fun x _ => x) ∧
  CompRule .alu0_011100 .a 0b0011100 (fun x _ => ~~~x) ∧
  CompRule .alu0_011101 .a 0b0011101 (fun x _ => x) ∧
  CompRule .alu0_011110 .a 0b0011110 (fun x _ => -x - 2) ∧
  CompRule .alu0_100000 .a 0b0100000 (fun _ _ => 0x0000) ∧
  CompRule .alu0_100001 .a 0b0100001 (fun _ _ => 0xFFFF) ∧
  CompRule .alu0_100010 .a 0b0100010 (fun _ y => y) ∧
  CompRule .alu0_100011 .a 0b0100011 (fun _ y => ~~~y) ∧
  CompRule .alu0_100100 .a 0b0100100 (fun _ _ => 0x0000) ∧
  CompRule .alu0_100101 .a 0b0100101 (fun _ _ => 0xFFFF) ∧
  CompRule .alu0_100110 .a 0b0100110 (fun _ y => ~~~y) ∧
  CompRule .alu0_100111 .a 0b0100111 (fun _ y => y) ∧
  CompRule .alu0_101000 .a 0b0101000 (fun _ _ => 0x0000) ∧
  CompRule .alu0_101001 .a 0b0101001 (fun _ _ => 0xFFFF) ∧
  CompRule .alu0_101011 .a 0b0101011 (fun _ _ => 0xFFFF) ∧
  CompRule .alu0_101100 .a 0b0101100 (fun _ _ => 0x0000) ∧
  CompRule .alu0_101101 .a 0b0101101 (fun _ _ => 0xFFFF) ∧
  CompRule .alu0_101110 .a 0b0101110 (fun _ _ => 0xFFFF) ∧
  CompRule .alu0_101111 .a 0b0101111 (fun _ _ => 0x0000) ∧
  CompRule .alu0_110100 .a 0b0110100 (fun _ y => ~~~y) ∧
  CompRule .alu0_110101 .a 0b0110101 (fun _ y => y) ∧
  CompRule .alu0_110110 .a 0b0110110 (fun _ y => -y - 2) ∧
  CompRule .alu0_111000 .a 0b0111000 (fun _ _ => 0x0000) ∧
  CompRule .alu0_111001 .a 0b0111001 (fun _ _ => 0xFFFF) ∧
  CompRule .alu0_111011 .a 0b0111011 (fun _ _ => 0x0000) ∧
  CompRule .alu0_111100 .a 0b0111100 (fun _ _ => 0xFFFF) ∧
  CompRule .alu0_111101 .a 0b0111101 (fun _ _ => 0x0000) ∧
  CompRule .alu0_111110 .a 0b0111110 (fun _ _ => 0xFFFE)

/-- Each comp: its encoding; with the addresses it accesses mapped, exec answers a next state in which
the destinations and the jump are done on out and nothing else changes; otherwise its read or
write fault. The 46 non-canonical codes on D and M have the closed forms of the R162 table. The
result of these codes is the spec's own decision D9 (log entry 7). The clauses that rest on a
choice: M is read and stored at the old A (D6, log entry 12), the jump target is PRE_A (D7, entry
6), a write to KBD is discarded (D5, entry 10), the faults (D3, D4, D24, entry 9), u is ignored
(D8, entry 13), PC is 16 bits wide (D15, entry 15), the memory map (D2, entry 4), the bit patterns
(general knowledge, entry 5), and M is read also where the code ignores it (D10, entry 11).
[42_c_alu.md section 4; 43_c_dest_jump.md sections 1, 2 and 3; 20_memory.md section 2;
60_exceptions.md section 1; 92_eei_decisions.md D2, D3, D4, D5, D6, D7, D8, D9, D10, D15, D24; log
entries 4, 5, 6, 7, 9, 10, 11, 12, 13, 15] -/
def Obligations.NoncanonicalCompsOnM : Prop :=
  CompRule .alu1_000001 .m 0b1000001 (fun x y => ~~~(x &&& y)) ∧
  CompRule .alu1_000011 .m 0b1000011 (fun x y => -x - y - 1) ∧
  CompRule .alu1_000100 .m 0b1000100 (fun x y => x &&& ~~~y) ∧
  CompRule .alu1_000101 .m 0b1000101 (fun x y => ~~~x ||| y) ∧
  CompRule .alu1_000110 .m 0b1000110 (fun x y => x - y - 1) ∧
  CompRule .alu1_001000 .m 0b1001000 (fun _ _ => 0x0000) ∧
  CompRule .alu1_001001 .m 0b1001001 (fun _ _ => 0xFFFF) ∧
  CompRule .alu1_001010 .m 0b1001010 (fun x _ => x) ∧
  CompRule .alu1_001011 .m 0b1001011 (fun x _ => ~~~x) ∧
  CompRule .alu1_010000 .m 0b1010000 (fun x y => ~~~x &&& y) ∧
  CompRule .alu1_010001 .m 0b1010001 (fun x y => x ||| ~~~y) ∧
  CompRule .alu1_010010 .m 0b1010010 (fun x y => y - x - 1) ∧
  CompRule .alu1_010100 .m 0b1010100 (fun x y => ~~~(x ||| y)) ∧
  CompRule .alu1_010110 .m 0b1010110 (fun x y => -x - y - 2) ∧
  CompRule .alu1_010111 .m 0b1010111 (fun x y => x + y + 1) ∧
  CompRule .alu1_011000 .m 0b1011000 (fun _ _ => 0x0000) ∧
  CompRule .alu1_011001 .m 0b1011001 (fun _ _ => 0xFFFF) ∧
  CompRule .alu1_011010 .m 0b1011010 (fun x _ => ~~~x) ∧
  CompRule .alu1_011011 .m 0b1011011 (fun x _ => x) ∧
  CompRule .alu1_011100 .m 0b1011100 (fun x _ => ~~~x) ∧
  CompRule .alu1_011101 .m 0b1011101 (fun x _ => x) ∧
  CompRule .alu1_011110 .m 0b1011110 (fun x _ => -x - 2) ∧
  CompRule .alu1_100000 .m 0b1100000 (fun _ _ => 0x0000) ∧
  CompRule .alu1_100001 .m 0b1100001 (fun _ _ => 0xFFFF) ∧
  CompRule .alu1_100010 .m 0b1100010 (fun _ y => y) ∧
  CompRule .alu1_100011 .m 0b1100011 (fun _ y => ~~~y) ∧
  CompRule .alu1_100100 .m 0b1100100 (fun _ _ => 0x0000) ∧
  CompRule .alu1_100101 .m 0b1100101 (fun _ _ => 0xFFFF) ∧
  CompRule .alu1_100110 .m 0b1100110 (fun _ y => ~~~y) ∧
  CompRule .alu1_100111 .m 0b1100111 (fun _ y => y) ∧
  CompRule .alu1_101000 .m 0b1101000 (fun _ _ => 0x0000) ∧
  CompRule .alu1_101001 .m 0b1101001 (fun _ _ => 0xFFFF) ∧
  CompRule .alu1_101011 .m 0b1101011 (fun _ _ => 0xFFFF) ∧
  CompRule .alu1_101100 .m 0b1101100 (fun _ _ => 0x0000) ∧
  CompRule .alu1_101101 .m 0b1101101 (fun _ _ => 0xFFFF) ∧
  CompRule .alu1_101110 .m 0b1101110 (fun _ _ => 0xFFFF) ∧
  CompRule .alu1_101111 .m 0b1101111 (fun _ _ => 0x0000) ∧
  CompRule .alu1_110100 .m 0b1110100 (fun _ y => ~~~y) ∧
  CompRule .alu1_110101 .m 0b1110101 (fun _ y => y) ∧
  CompRule .alu1_110110 .m 0b1110110 (fun _ y => -y - 2) ∧
  CompRule .alu1_111000 .m 0b1111000 (fun _ _ => 0x0000) ∧
  CompRule .alu1_111001 .m 0b1111001 (fun _ _ => 0xFFFF) ∧
  CompRule .alu1_111011 .m 0b1111011 (fun _ _ => 0x0000) ∧
  CompRule .alu1_111100 .m 0b1111100 (fun _ _ => 0xFFFF) ∧
  CompRule .alu1_111101 .m 0b1111101 (fun _ _ => 0x0000) ∧
  CompRule .alu1_111110 .m 0b1111110 (fun _ _ => 0xFFFE)

/-- On each of the 18 canonical codes the ALU formula computes the function the source names, for all
operands; and the list of canonical codes, outside which ALU_NONCANONICAL decides, is exactly
these 18, with no repeats. The formula itself is the spec's choice (D9, log entry 7), and the bit
patterns of the codes are general knowledge (log entry 5). [42_c_alu.md section 2; 30_encoding.md
section 3; 92_eei_decisions.md D9; log entry 5; log entry 7] -/
def Obligations.FormulaGivesTheCanonicalFunctions : Prop :=
  (∀ x y : Word,
    alu ⟨true, false, true, false, true, false⟩ x y = 0x0000 ∧
    alu ⟨true, true, true, true, true, true⟩ x y = 0x0001 ∧
    alu ⟨true, true, true, false, true, false⟩ x y = 0xFFFF ∧
    alu ⟨false, false, true, true, false, false⟩ x y = x ∧
    alu ⟨true, true, false, false, false, false⟩ x y = y ∧
    alu ⟨false, false, true, true, false, true⟩ x y = ~~~x ∧
    alu ⟨true, true, false, false, false, true⟩ x y = ~~~y ∧
    alu ⟨false, false, true, true, true, true⟩ x y = 0 - x ∧
    alu ⟨true, true, false, false, true, true⟩ x y = 0 - y ∧
    alu ⟨false, true, true, true, true, true⟩ x y = x + 1 ∧
    alu ⟨true, true, false, true, true, true⟩ x y = y + 1 ∧
    alu ⟨false, false, true, true, true, false⟩ x y = x - 1 ∧
    alu ⟨true, true, false, false, true, false⟩ x y = y - 1 ∧
    alu ⟨false, false, false, false, true, false⟩ x y = x + y ∧
    alu ⟨false, true, false, false, true, true⟩ x y = x - y ∧
    alu ⟨false, false, false, true, true, true⟩ x y = y - x ∧
    alu ⟨false, false, false, false, false, false⟩ x y = x &&& y ∧
    alu ⟨false, true, false, true, false, true⟩ x y = x ||| y) ∧
  canonicalCodes =
    [⟨true, false, true, false, true, false⟩,
     ⟨true, true, true, true, true, true⟩,
     ⟨true, true, true, false, true, false⟩,
     ⟨false, false, true, true, false, false⟩,
     ⟨true, true, false, false, false, false⟩,
     ⟨false, false, true, true, false, true⟩,
     ⟨true, true, false, false, false, true⟩,
     ⟨false, false, true, true, true, true⟩,
     ⟨true, true, false, false, true, true⟩,
     ⟨false, true, true, true, true, true⟩,
     ⟨true, true, false, true, true, true⟩,
     ⟨false, false, true, true, true, false⟩,
     ⟨true, true, false, false, true, false⟩,
     ⟨false, false, false, false, true, false⟩,
     ⟨false, true, false, false, true, true⟩,
     ⟨false, false, false, true, true, true⟩,
     ⟨false, false, false, false, false, false⟩,
     ⟨false, true, false, true, false, true⟩] ∧
  canonicalCodes.length = 18 ∧ canonicalCodes.Nodup

/-- Each arithmetic comp stored in D leaves in D the exact integer result reduced modulo 2^16, the
same from the signed and from the unsigned reading of the operands, and answers a next state with
every other field but PC as before. The forms meant are the comps with D as their only destination
and no jump, for A mapped where the comp reads M; other destinations, jumps and codes are in the
statements of the comps. That it is so for every u is the spec's own decision D8 (log entry 13),
that PC + 1 is 16 bits wide is its decision D15 (entry 15), and which addresses are mapped is its
decision D2 (entry 4). [42_c_alu.md section 5; 42_c_alu.md section 3; 43_c_dest_jump.md section 3;
92_eei_decisions.md D2, D8, D15; log entries 4, 13, 15] -/
def Obligations.ArithmeticWrapsSilently : Prop :=
  Wraps .compNegD (fun x _ => -x) ∧
  Wraps .compDPlus1 (fun x _ => x + 1) ∧
  Wraps .compDMinus1 (fun x _ => x - 1) ∧
  Wraps .compNegA (fun _ y => -y) ∧
  Wraps .compAPlus1 (fun _ y => y + 1) ∧
  Wraps .compAMinus1 (fun _ y => y - 1) ∧
  Wraps .compDPlusA (fun x y => x + y) ∧
  Wraps .compDMinusA (fun x y => x - y) ∧
  Wraps .compAMinusD (fun x y => y - x) ∧
  WrapsM .compNegM (fun _ y => -y) ∧
  WrapsM .compMPlus1 (fun _ y => y + 1) ∧
  WrapsM .compMMinus1 (fun _ y => y - 1) ∧
  WrapsM .compDPlusM (fun x y => x + y) ∧
  WrapsM .compDMinusM (fun x y => x - y) ∧
  WrapsM .compMMinusD (fun x y => y - x)

/-- zr is out = 0; ng is bit 15 of out, which is sint(out) < 0; exactly one of ng, zr and (not zr and
not ng) holds. [R132] -/
def Obligations.ResultIsExactlyOneOfThree : Prop :=
  ∀ out : Word, (zr out = true ↔ out = 0x0000) ∧ (ng out = true ↔ out.getLsbD 15 = true) ∧
    (out.getLsbD 15 = true ↔ out.toInt < 0) ∧ ¬ (zr out = true ∧ ng out = true) ∧
    ((!zr out && !ng out) = true ↔ zr out = false ∧ ng out = false)

/-- For every jump and result, take is the condition on sint(out) the rule gives, and equals the
selector-bit form of the step; the low three bits of the word of a C-instruction are the jump's
field value. The values of the jump field, its place in the word and its selector bits are general
knowledge (log entry 5). [43_c_dest_jump.md section 2; 30_encoding.md section 3;
40_execution_cycle.md section 1; 93_implementation_defined.md G6; log entry 5] -/
def Obligations.JumpConditionsReadTheResultAsSigned : Prop :=
  (∀ (j : Jump) (out : Word), (take j out = true ↔ JumpHolds j out) ∧
    takeBits j.lt j.eq j.gt out = take j out) ∧
  ∀ i u src k dest jump, i.view = .c u src k dest jump →
    (encode i).extractLsb' 0 3 = jumpField jump

/-- If exec answers a next state, its PC is PC + 1, or the instruction is a C-instruction with a jump
and PC is the A before it. That the target is the old A is the spec's own decision D7,
JUMP_TARGET_SOURCE = PRE_A (log entry 6). [60_exceptions.md section 1; 43_c_dest_jump.md section
3; 92_eei_decisions.md D7] -/
def Obligations.ControlGoesOnOrToTheOldA : Prop :=
  ∀ i s t, exec i s = .next t →
    t.pc = s.pc + 1 ∨
    ∃ u src k dest jump, i.view = .c u src k dest jump ∧ jump ≠ .never ∧ t.pc = s.a

/-- Under any other parameters, if the step differs between PRE_A and POST_A, the word at PC is a
C-instruction with dA = 1, its jump is taken, and out is not the old A. [43_c_dest_jump.md section
3; 92_eei_decisions.md D7] -/
def Obligations.JumpTargetSourceMattersOnlyWhenAIsWritten : Prop :=
  ∀ (p : Params) (s : State),
    cycle { p with jumpTargetSource := .preA } s ≠ cycle { p with jumpTargetSource := .postA } s →
    ∃ w u src k dest jump y, s.rom[s.pc.toNat]? = some w ∧
      viewOfWord w = .c u src k dest jump ∧ OperandIs src s y ∧ dest.a = true ∧
      JumpHolds jump (aluResult p src k s.d y) ∧ aluResult p src k s.d y ≠ s.a

/-- The region of every data address is the row of the decoder table. The base addresses are the
spec's own decision D2 (log entry 4). [20_memory.md section 2; 92_eei_decisions.md D2] -/
def Obligations.AddressDecoderRegions : Prop :=
  ∀ k : Nat,
    (k ≤ 16383 → region k = .ram) ∧
    (16384 ≤ k → k ≤ 24575 → region k = .screen) ∧
    (k = 24576 → region k = .kbd) ∧
    (24577 ≤ k → k ≤ 32767 → region k = .unmapped) ∧
    (32768 ≤ k → region k = .outOfRange)

/-- MemRead returns RAM[addr], SCREEN[addr - 16384] or KBD by the region of addr, and raises
READ_OUT_OF_RANGE(addr) where addr is unmapped or out of range. The two fault rows are the spec's
own decisions D3 and D4 (log entry 9), and the addresses are its decision D2 (log entry 4).
[20_memory.md section 2; 92_eei_decisions.md D2, D3, D4; log entry 4; log entry 9] -/
def Obligations.MemReadAnswersByRegion : Prop :=
  ∀ (k : Nat) (s : State),
    (region k = .ram → memRead k s = .ok (Memory.read s.ram k)) ∧
    (region k = .screen → memRead k s = .ok (Memory.read s.screen (k - 16384))) ∧
    (region k = .kbd → memRead k s = .ok s.kbd) ∧
    (region k = .unmapped → memRead k s = .error (.readOutOfRange k)) ∧
    (region k = .outOfRange → memRead k s = .error (.readOutOfRange k))

/-- From a well-formed state: a write to RAM or SCREEN answers a state in which that address reads as
the value, every other address reads as before, and nothing else differs; a write to KBD answers
the same state; a write elsewhere raises WRITE_OUT_OF_RANGE(addr). The discarded write to KBD is
the spec's own decision D5 (log entry 10), the two fault rows are its decisions D3 and D4 (log
entry 9), and the addresses are its decision D2 (log entry 4). [20_memory.md section 2;
92_eei_decisions.md D2, D3, D4, D5; log entry 4; log entry 9; log entry 10] -/
def Obligations.MemWriteStoresOneWord : Prop :=
  ∀ (k : Nat) (v : Word) (s : State), s.WF →
    (region k = .ram ∨ region k = .screen → ∃ t, memWrite k v s = .ok t ∧
      memRead k t = .ok v ∧ (∀ k', k' ≠ k → memRead k' t = memRead k' s) ∧
      (region k = .ram → t = { s with ram := t.ram }) ∧
      (region k = .screen → t = { s with screen := t.screen })) ∧
    (region k = .kbd → memWrite k v s = .ok s) ∧
    (region k = .unmapped → memWrite k v s = .error (.writeOutOfRange k)) ∧
    (region k = .outOfRange → memWrite k v s = .error (.writeOutOfRange k))

/-- After a reset of any state and any sequence of MemWrites to mapped addresses, MemRead of a RAM
address gives the value of the last write to it in the sequence, or 0 when there is none. The 0
after a reset is the spec's own decision D13, RESET_RAM = ZERO (log entries 3, 16), and the
addresses are its decision D2 (log entry 4). ScreenReadsTheLastValueWritten says the same of
SCREEN. [20_memory.md section 2; 92_eei_decisions.md D2; 92_eei_decisions.md D13; log entry 3; log
entry 4; log entry 16] -/
def Obligations.RamReadsTheLastValueWritten : Prop :=
  ∀ (s : State) (writes : List (Nat × Word)) (k : Nat), (∀ p ∈ writes, Mapped p.1) → k < 16384 →
    memRead k (writes.foldl (fun t p => (memWrite p.1 p.2 t).toOption.getD t) (resetCpu s)) =
      .ok (((writes.reverse.find? fun p => p.1 = k).map (·.2)).getD 0)

/-- The canonical form of the model's word memories (log entries 2 and 3) is unique: two canonical
memories that give the same word at every address are equal lists. [10_state.md section 3] -/
def Obligations.CanonicalMemoriesAreEqualWhenTheyReadEqual : Prop :=
  ∀ (size : Nat) (m m' : Memory), Memory.wf size m → Memory.wf size m' →
    (∀ k, Memory.read m k = Memory.read m' k) → m = m'

/-- For every well-formed state, reachable or not, whose step answers a next state, that state is
well-formed: RAM and SCREEN stay canonical and inside their regions, and ROM stays within ROM_MAX.
[10_state.md section 3; 20_memory.md section 2] -/
def Obligations.EveryStepKeepsTheStateWellFormed : Prop :=
  ∀ s t : State, s.WF → step s = .next t → t.WF

/-- The reset state meets the invariant of every step, and so does every launch state. [10_state.md
section 4] -/
def Obligations.ResetStateIsWellFormed : Prop :=
  State.reset.WF ∧ ∀ ws s, Launch ws s → s.WF

/-- For every well-formed session and every sequence of host moves (load, reset, keyboard, step, run,
breakpoints, stepper requests), the session after it is well-formed: the CPU state is, and the
breakpoints are a set of accepted ones. The representation of the set is the model's choice (log
entry 20). [60_exceptions.md section 4; 20_memory.md section 6] -/
def Obligations.HostMovesKeepTheSessionWellFormed : Prop :=
  Session.initial.WF ∧ ∀ (ms : List HostMove) (ss : Session), ss.WF → (ss.moves ms).WF

/-- A step leaves ROM as it was; every host move but a load leaves it too; a load that succeeds
replaces the whole ROM with the program and leaves the CPU in the state a load creates. That a
load resets the CPU is the spec's own decision D14 (log entry 17), and that a reset keeps ROM is
its decision D13 (log entry 16). [20_memory.md section 3; 70_reset_and_hazards.md section 2;
92_eei_decisions.md D13; 92_eei_decisions.md D14; log entry 16; log entry 17] -/
def Obligations.OnlyALoadWritesRom : Prop :=
  (∀ s t, step s = .next t → t.rom = s.rom) ∧
  (∀ (m : HostMove) (ss : Session), (∀ r, m ≠ .load r) → (ss.move m).cpu.rom = ss.cpu.rom) ∧
  ∀ (r : LoadRequest) (ss : Session) ws, r.program = .ok ws →
    (ss.move (.load r)).cpu = State.loaded ws ∧ (ss.move (.load r)).cpu.rom = ws

/-- A step leaves KBD as it was; set_keyboard(v) makes the word at 24576 read as v for every v and
changes nothing else; no other move but reset and load changes KBD. That the host may set every
16-bit word is the spec's own decision D18 (log entry 24), and the address 24576 is its decision
D2 (log entry 4). [20_memory.md section 4; 92_eei_decisions.md D2; 92_eei_decisions.md D18; log
entry 4; log entry 24] -/
def Obligations.OnlyTheHostWritesTheKeyboardWord : Prop :=
  (∀ s t, step s = .next t → t.kbd = s.kbd) ∧
  (∀ (v : Word) (ss : Session),
    ss.move (.setKeyboard v) = { ss with cpu := { ss.cpu with kbd := v } } ∧
    memRead 24576 (ss.move (.setKeyboard v)).cpu = .ok v) ∧
  ∀ (m : HostMove) (ss : Session), (∀ v, m ≠ .setKeyboard v) → m ≠ .reset → (∀ r, m ≠ .load r) →
    (ss.move m).cpu.kbd = ss.cpu.kbd

/-- If the CPU step faults, the faulted state is the state before it with the fault mark set to the
fault that step answered, and nothing else changed. This is the spec's own decision D16 (log entry
9). [40_execution_cycle.md section 1; 92_eei_decisions.md D16] -/
def Obligations.FaultingStepCommitsNothing : Prop :=
  ∀ s t : State, cpuStep s = .faulted t →
    ∃ r, step s = .fault r ∧ t = { s with fault := some r }

/-- exec faults exactly when the instruction reads M at an unmapped A (the read fault), or has a = 0
and stores M at an unmapped A (the write fault); an A-instruction never faults. The fault kinds
and their order are the spec's own decisions D3, D4, D16, D24 (log entry 9). That a = 1 faults
also where the function ignores M is its decision D10 (log entry 11), that a write to KBD does not
fault is its decision D5 (entry 10), that the store is at the old A is its decision D6 (entry 12),
and the mapped addresses are its decision D2 (entry 4). [60_exceptions.md section 1; 20_memory.md
section 2; 42_c_alu.md section 1; 43_c_dest_jump.md section 1; 92_eei_decisions.md D2, D3, D4, D5,
D6, D10, D16, D24; log entries 4, 9, 10, 11, 12] -/
def Obligations.FaultsAreExactlyTheListedOnes : Prop :=
  ∀ i s r, exec i s = .fault r ↔
    ∃ u src k dest jump, i.view = .c u src k dest jump ∧ ¬ Mapped s.a.toNat ∧
      (src = .m ∧ r = .readOutOfRange s.a.toNat ∨
        src = .a ∧ dest.m = true ∧ r = .writeOutOfRange s.a.toNat)

/-- An A-instruction, or a C-instruction with a = 0 and no M destination, answers a next state whose
registers do not depend on RAM, SCREEN, KBD or ROM, and leaves all of them as they were.
[20_memory.md section 5; 60_exceptions.md section 1] -/
def Obligations.RegisterInstructionsIgnoreTheDataMemory : Prop :=
  ∀ i s s', (∀ u src k dest jump, i.view = .c u src k dest jump → src = .a ∧ dest.m = false) →
    s'.a = s.a → s'.d = s.d → s'.pc = s.pc →
    ∃ a d pc, exec i s = .next { s with a := a, d := d, pc := pc } ∧
      exec i s' = .next { s' with a := a, d := d, pc := pc }

/-- After reset A, D and PC are 0, every mapped data word reads 0, the fault mark is none, and ROM is
as it was; breakpoints are as they were and the stepper is Stopped. That RAM and KBD are cleared
is the spec's own decision D12, D13 (log entries 16, 24). [70_reset_and_hazards.md section 1;
10_state.md section 4; 92_eei_decisions.md D12, D13] -/
def Obligations.ResetLeavesTheResetValues : Prop :=
  ∀ ss : Session,
    ss.reset.cpu.a = 0 ∧ ss.reset.cpu.d = 0 ∧ ss.reset.cpu.pc = 0 ∧ ss.reset.cpu.kbd = 0 ∧
    ss.reset.cpu.fault = none ∧ ss.reset.cpu.rom = ss.cpu.rom ∧
    (∀ k, Mapped k → memRead k ss.reset.cpu = .ok 0) ∧
    ss.reset.breakpoints = ss.breakpoints ∧ ss.reset.stepper = .stopped

/-- For every session, a reset after a reset changes nothing. [R251] -/
def Obligations.ResetIsIdempotent : Prop :=
  ∀ ss : Session, ss.reset.reset = ss.reset

/-- A load either yields a program of 1 to 32768 words, and then the CPU is in the reset state with
that ROM, the stepper Stopped and the breakpoints kept, or fails, and then nothing at all changes.
The reset on load is the spec's own decision D14; refusing a program over ROM_MAX and keeping the
breakpoints are the model's inferences (log entries 14, 17). [70_reset_and_hazards.md section 2;
92_eei_decisions.md D1, D14] -/
def Obligations.LoadReplacesTheProgramOrChangesNothing : Prop :=
  ∀ (r : LoadRequest) (ss : Session),
    (∃ ws, r.words = .ok ws ∧ 1 ≤ ws.length ∧ ws.length ≤ 32768 ∧
      ss.load r = ⟨{ State.reset with rom := ws }, ss.breakpoints, .stopped⟩) ∨
    ((∀ ws, r.words = .ok ws → ws.length = 0 ∨ 32768 < ws.length) ∧ ss.load r = ss)

/-- For each of the three spellings the loader admits, the contents that spell a sequence of words are
read as exactly that sequence, and byte contents of odd length are a malformed length. The
spellings are OPEN in the spec; their details are the model's choice (log entry 18).
[70_reset_and_hazards.md section 2; 92_eei_decisions.md D17] -/
def Obligations.RawBinaryFormatsSpellEveryWord : Prop :=
  (∀ ws : List Word,
    (LoadRequest.rawBinary .bigEndianBytes (ws.flatMap bigEndianOf)).words = .ok ws ∧
    (LoadRequest.rawBinary .littleEndianBytes (ws.flatMap littleEndianOf)).words = .ok ws ∧
    (LoadRequest.rawBinary .textLines (ws.flatMap textLineOf)).words = .ok ws) ∧
  ∀ (ws : List Word) (b : Byte),
    (LoadRequest.rawBinary .bigEndianBytes (ws.flatMap bigEndianOf ++ [b])).words
      = .error .malformedLength ∧
    (LoadRequest.rawBinary .littleEndianBytes (ws.flatMap littleEndianOf ++ [b])).words
      = .error .malformedLength

/-- run(m + n) gives the result of run(n) after run(m) when run(m) returned NOT_HALTED, and the result
of run(m) itself otherwise. The FAULTED result is the spec's addition (D16). [60_exceptions.md
section 4] -/
def Obligations.RepeatedRunsComposeIntoOne : Prop :=
  ∀ (bps : List Breakpoint) (m n : Nat) (s : State),
    run bps (m + n) s =
      if (run bps m s).2 = .notHalted then run bps n (run bps m s).1 else run bps m s

/-- If run(N) returns HALTED in state t, some step within the budget, before which nothing had halted,
led to t and reported halted or left a breakpoint matching; the test is on the state after the
step only, by the spec's own decision D19. [60_exceptions.md section 4; 92_eei_decisions.md D19] -/
def Obligations.RunHaltsOnlyAfterAReportOrAMatch : Prop :=
  ∀ (bps : List Breakpoint) (n : Nat) (s t : State), run bps n s = (t, .halted) ↔
    ∃ m u halted, m < n ∧ run bps m s = (u, .notHalted) ∧ cpuStep u = .stepped t halted ∧
      (halted = true ∨ ∃ b ∈ bps, b.var.value t = some b.target)

/-- When a CPU step goes on, it reports halted exactly when the word at PC is a C-instruction with
jump field 111 and PC did not change. That the two-instruction idiom is not reported is the spec's
own decision D11, HALT_IDIOM = false (log entry 8). [40_execution_cycle.md section 1;
92_eei_decisions.md D11] -/
def Obligations.HaltedIsReportedOnASelfJumpOnly : Prop :=
  ∀ (s t : State) (halted : Bool), cpuStep s = .stepped t halted →
    (halted = true ↔ ∃ i u src k dest, s.rom[s.pc.toNat]? = some (encode i) ∧
      i.view = .c u src k dest .jmp ∧ t.pc = s.pc)

/-- Under any other parameters, the step goes to the same state, or the same faulted state, whatever
HALT_IDIOM is, and a step reported halted without it is reported halted with it (D11, log entry
8). [40_execution_cycle.md section 1; 92_eei_decisions.md D11] -/
def Obligations.HaltIdiomChangesOnlyTheReport : Prop :=
  ∀ (p : Params) (s : State),
    (∀ t halted, cycle { p with haltIdiom := false } s = .stepped t halted →
      ∃ halted', cycle { p with haltIdiom := true } s = .stepped t halted' ∧
        (halted = true → halted' = true)) ∧
    ∀ t, cycle { p with haltIdiom := false } s = .faulted t →
      cycle { p with haltIdiom := true } s = .faulted t

/-- From a state with no fault mark, where ROM at PC holds 0;JMP and A is PC, the step goes on, in the
same state, and reports halted; run(N) for N > 0 returns HALTED there. That no halt is a power
state, so the step goes on, is the spec's own decision D22 (log entry 30), that this jump is
reported halted is its decision D11 (entry 8), and that it is so for every u is its decision D8
(entry 13). Only 0;JMP with no destination and A = PC is meant. [60_exceptions.md sections 3 and
4; 40_execution_cycle.md section 1; 30_encoding.md section 2; 43_c_dest_jump.md section 3;
92_eei_decisions.md D8, D11, D22; log entries 8, 13, 30] -/
def Obligations.SelfJumpKeepsExecuting : Prop :=
  ∀ (s : State) (u : BitVec 2), s.fault = none → s.a = s.pc →
    s.rom[s.pc.toNat]? = some (encode (.compZero u ⟨false, false, false⟩ .jmp)) →
    step s = .next s ∧ cpuStep s = .stepped s true ∧
      ∀ bps n, run bps (n + 1) s = (s, .halted)

/-- A run request makes the stepper Running from any state; a pause request makes Running Stopped;
run(N) makes it Halted on HALTED or FAULTED and Running Stopped on NOT_HALTED; a reset or
successful load makes it Stopped. The transitions the source does not list are the spec's decision
D20 and the model's choice (log entry 19). [60_exceptions.md section 4; 92_eei_decisions.md D20] -/
def Obligations.StepperTransitions : Prop :=
  ∀ ss : Session,
    (ss.move .runRequest).stepper = .running ∧
    (ss.stepper = .running → (ss.move .pauseRequest).stepper = .stopped) ∧
    (∀ n, ss.runResult n ≠ .notHalted → (ss.move (.run n)).stepper = .halted) ∧
    (∀ n, ss.runResult n = .notHalted → ss.stepper = .running →
      (ss.move (.run n)).stepper = .stopped) ∧
    (ss.move .reset).stepper = .stopped ∧
    ∀ r ws, r.program = .ok ws → (ss.move (.load r)).stepper = .stopped

/-- A request for a breakpoint on Mem[k] with k over 24576 changes nothing; any other request puts the
breakpoint in the set. The refusal is the spec's own decision D27. [60_exceptions.md section 4;
92_eei_decisions.md D27] -/
def Obligations.BreakpointsOnUnmappedCellsAreRefused : Prop :=
  ∀ (ss : Session) (k : Nat) (v : Word),
    (24576 < k → ss.move (.addBreakpoint ⟨.mem k, v⟩) = ss) ∧
    (k ≤ 24576 → ⟨.mem k, v⟩ ∈ (ss.move (.addBreakpoint ⟨.mem k, v⟩)).breakpoints) ∧
    ⟨.a, v⟩ ∈ (ss.move (.addBreakpoint ⟨.a, v⟩)).breakpoints ∧
    ⟨.d, v⟩ ∈ (ss.move (.addBreakpoint ⟨.d, v⟩)).breakpoints ∧
    ⟨.pc, v⟩ ∈ (ss.move (.addBreakpoint ⟨.pc, v⟩)).breakpoints

/-- After a reset of any state and any sequence of MemWrites to mapped addresses, MemRead of a SCREEN
address, 16384 to 24575, gives the value of the last write to it in the sequence, or 0 when there
is none. The 0 after a reset is the spec's own decision D13 (log entries 3, 16), and the addresses
are its decision D2 (log entry 4). [20_memory.md section 2; 92_eei_decisions.md D2;
92_eei_decisions.md D13; log entry 3; log entry 4; log entry 16] -/
def Obligations.ScreenReadsTheLastValueWritten : Prop :=
  ∀ (s : State) (writes : List (Nat × Word)) (k : Nat), (∀ p ∈ writes, Mapped p.1) →
    16384 ≤ k → k ≤ 24575 →
    memRead k (writes.foldl (fun t p => (memWrite p.1 p.2 t).toOption.getD t) (resetCpu s)) =
      .ok (((writes.reverse.find? fun p => p.1 = k).map (·.2)).getD 0)

/-- The words that lines of the notation emit, decoded, are the instructions of the instruction lines
in order, so a line is one word and a label line emits nothing; every word is the word of exactly
one well-formed instruction, so there is no further instruction; and every well-formed
instruction, the jump of the halt idiom too, completes from some state with no halt reported. That
every word is an instruction, whatever its u, is the spec's own decision D8 (log entry 13), and
what is reported halted is its decision D11 (entry 8). [30_encoding.md section 5; 30_encoding.md
section 4; 40_execution_cycle.md section 1; 92_eei_decisions.md D8, D11; log entries 8, 13] -/
def Obligations.NoPseudoInstructionAndNoHaltInstruction : Prop :=
  (∀ lines : List SourceLine,
    (∀ l ∈ lines, ∀ i, l.instr? = some i → i.wellFormed = true) →
    (emitted lines).map decode = lines.filterMap SourceLine.instr?) ∧
  (∀ w : Word, ∃ i : Instr, (i.wellFormed = true ∧ encode i = w) ∧
    ∀ i' : Instr, i'.wellFormed = true → encode i' = w → i' = i) ∧
  ∀ i : Instr, i.wellFormed = true → ∃ s t : State, s.WF ∧
    s.rom[s.pc.toNat]? = some (encode i) ∧ cpuStep s = .stepped t false
end

