-- ==== Sys2Proof/Laws/Memory.lean ====
section
/-! SUPPORT. The word memory: reading after writing, and the canonical form. -/

namespace Sys2Proof.Machine

@[simp] theorem Memory.read_nil (key : Nat) : Memory.read [] key = unwritten := rfl

theorem Memory.read_cons (k : Nat) (v : Word) (m : Memory) (key : Nat) :
    Memory.read ((k, v) :: m) key = if key = k then v else Memory.read m key := rfl

@[simp] theorem Memory.wf_nil (size : Nat) : Memory.wf size [] := by simp [Memory.wf]

theorem Memory.wf_cons {size k : Nat} {v : Word} {m : Memory} :
    Memory.wf size ((k, v) :: m) ↔
      (∀ p ∈ m, k < p.1) ∧ k < size ∧ v ≠ unwritten ∧ Memory.wf size m := by
  simp only [Memory.wf, List.pairwise_cons, List.forall_mem_cons]
  tauto

/-- A key below every entry is not listed. -/
theorem Memory.read_of_lt {m : Memory} {key : Nat} (h : ∀ p ∈ m, key < p.1) :
    Memory.read m key = unwritten := by
  induction m with
  | nil => rfl
  | cons p m ih =>
    obtain ⟨k, v⟩ := p
    have hk : key < k := h _ List.mem_cons_self
    rw [Memory.read_cons, if_neg (by omega)]
    exact ih fun q hq => h q (List.mem_cons_of_mem _ hq)

theorem Memory.read_write_self {size : Nat} {m : Memory} (h : Memory.wf size m) (key : Nat)
    (v : Word) : Memory.read (Memory.write m key v) key = v := by
  induction m with
  | nil =>
    by_cases hv : v = unwritten <;> simp [Memory.write, Memory.read, hv]
  | cons p m ih =>
    obtain ⟨k, w⟩ := p
    obtain ⟨hk, -, -, hm⟩ := Memory.wf_cons.1 h
    simp only [Memory.write]
    split
    · rename_i hlt
      have hr : Memory.read m key = unwritten :=
        Memory.read_of_lt fun q hq => Nat.lt_trans hlt (hk q hq)
      split <;> rename_i hv
      · rw [Memory.read_cons, if_neg (by omega), hr, hv]
      · rw [Memory.read_cons, if_pos rfl]
    · split
      · rename_i heq
        subst heq
        split <;> rename_i hv
        · rw [Memory.read_of_lt hk, hv]
        · rw [Memory.read_cons, if_pos rfl]
      · rename_i hne
        rw [Memory.read_cons, if_neg hne, ih hm]

theorem Memory.read_write_ne {key key' : Nat} (h : key' ≠ key) (m : Memory) (v : Word) :
    Memory.read (Memory.write m key v) key' = Memory.read m key' := by
  induction m with
  | nil =>
    by_cases hv : v = unwritten <;> simp [Memory.write, Memory.read, hv, h]
  | cons p m ih =>
    obtain ⟨k, w⟩ := p
    simp only [Memory.write]
    split
    · split <;> simp [Memory.read, h]
    · split
      · rename_i heq
        subst heq
        split <;> simp [Memory.read, h]
      · simp [Memory.read, ih]

/-- An entry of a written memory is the one written or one that was there. -/
theorem Memory.mem_write {m : Memory} {key : Nat} {v : Word} {p : Nat × Word}
    (h : p ∈ Memory.write m key v) : p = (key, v) ∧ v ≠ unwritten ∨ p ∈ m := by
  induction m with
  | nil =>
    simp only [Memory.write] at h
    split at h <;> simp_all
  | cons q m ih =>
    obtain ⟨k, w⟩ := q
    simp only [Memory.write] at h
    split at h
    · split at h <;> simp_all
    · split at h
      · split at h
        · exact .inr (List.mem_cons_of_mem _ h)
        · rcases List.mem_cons.1 h with rfl | h'
          · exact .inl ⟨rfl, by assumption⟩
          · exact .inr (List.mem_cons_of_mem _ h')
      · rcases List.mem_cons.1 h with rfl | h'
        · exact .inr List.mem_cons_self
        · exact (ih h').imp_right (List.mem_cons_of_mem _)

/-- A write inside the memory keeps the canonical form. -/
theorem Memory.write_wf {size : Nat} {m : Memory} (h : Memory.wf size m) {key : Nat}
    (hk : key < size) (v : Word) : Memory.wf size (Memory.write m key v) := by
  induction m with
  | nil =>
    simp only [Memory.write]
    split
    · exact Memory.wf_nil size
    · exact Memory.wf_cons.2 ⟨by simp, hk, by assumption, Memory.wf_nil size⟩
  | cons p m ih =>
    obtain ⟨k, w⟩ := p
    obtain ⟨hlt, hks, hw, hm⟩ := Memory.wf_cons.1 h
    simp only [Memory.write]
    split
    · rename_i hkk
      split
      · exact h
      · refine Memory.wf_cons.2 ⟨?_, hk, by assumption, h⟩
        intro q hq
        rcases List.mem_cons.1 hq with rfl | hq
        · exact hkk
        · exact Nat.lt_trans hkk (hlt q hq)
    · split
      · rename_i heq
        subst heq
        split
        · exact hm
        · exact Memory.wf_cons.2 ⟨hlt, hk, by assumption, hm⟩
      · refine Memory.wf_cons.2 ⟨?_, hks, hw, ih hm⟩
        intro q hq
        rcases Memory.mem_write hq with ⟨rfl, -⟩ | hq
        · show k < key
          omega
        · exact hlt q hq

end Sys2Proof.Machine
end

