-- ==== Sys2Proof/Laws/Ops.lean ====
section
/-! SUPPORT. What the data accesses can do, region by region. -/

namespace Sys2Proof.Machine

theorem region_ram {k : Nat} (h : k < 16384) : region k = .ram := by
  simp [region, ramWords, h]

theorem region_screen {k : Nat} (h : 16384 ≤ k) (h' : k < 24576) : region k = .screen := by
  simp [region, ramWords, screenBase, screenWords, h', show ¬ k < 16384 by omega]

theorem region_kbd : region 24576 = .kbd := by decide

theorem region_unmapped {k : Nat} (h : 24576 < k) (h' : k < 32768) : region k = .unmapped := by
  simp [region, ramWords, screenBase, screenWords, kbdAddr, dataAddresses, h',
    show ¬ k < 16384 by omega, show ¬ k < 24576 by omega, show k ≠ 24576 by omega]

theorem region_outOfRange {k : Nat} (h : 32768 ≤ k) : region k = .outOfRange := by
  simp [region, ramWords, screenBase, screenWords, kbdAddr, dataAddresses,
    show ¬ k < 16384 by omega, show ¬ k < 24576 by omega, show k ≠ 24576 by omega,
    show ¬ k < 32768 by omega]

/-- The range of addresses of each region. -/
theorem region_cases (k : Nat) :
    k < 16384 ∧ region k = .ram ∨ 16384 ≤ k ∧ k < 24576 ∧ region k = .screen ∨
      k = 24576 ∧ region k = .kbd ∨ 24576 < k ∧ k < 32768 ∧ region k = .unmapped ∨
      32768 ≤ k ∧ region k = .outOfRange := by
  rcases Nat.lt_or_ge k 16384 with h | h
  · exact .inl ⟨h, region_ram h⟩
  rcases Nat.lt_or_ge k 24576 with h1 | h1
  · exact .inr (.inl ⟨h, h1, region_screen h h1⟩)
  rcases Nat.lt_or_ge k 32768 with h2 | h2
  · rcases Nat.eq_or_lt_of_le h1 with rfl | h3
    · exact .inr (.inr (.inl ⟨rfl, region_kbd⟩))
    · exact .inr (.inr (.inr (.inl ⟨h3, h2, region_unmapped h3 h2⟩)))
  · exact .inr (.inr (.inr (.inr ⟨h2, region_outOfRange h2⟩)))

/-- A read answers a word exactly at a mapped address, and faults elsewhere. -/
theorem memRead_cases (k : Nat) (s : State) :
    k ≤ 24576 ∧ (∃ v, memRead k s = .ok v) ∨
      24576 < k ∧ memRead k s = .error (.readOutOfRange k) := by
  rcases region_cases k with ⟨h, e⟩ | ⟨_, h, e⟩ | ⟨h, e⟩ | ⟨h, _, e⟩ | ⟨h, e⟩
  all_goals simp only [memRead, e]
  · exact .inl ⟨by omega, _, rfl⟩
  · exact .inl ⟨by omega, _, rfl⟩
  · exact .inl ⟨by omega, _, rfl⟩
  · exact .inr ⟨h, trivial⟩
  · exact .inr ⟨by omega, trivial⟩

/-- Everything a write can do: it stores in RAM or SCREEN, is discarded at KBD, and faults
elsewhere. -/
theorem memWrite_cases (k : Nat) (v : Word) (s : State) :
    k < 16384 ∧ memWrite k v s = .ok { s with ram := Memory.write s.ram k v } ∨
      16384 ≤ k ∧ k < 24576 ∧
        memWrite k v s = .ok { s with screen := Memory.write s.screen (k - 16384) v } ∨
      k = 24576 ∧ memWrite k v s = .ok s ∨
      24576 < k ∧ memWrite k v s = .error (.writeOutOfRange k) := by
  rcases region_cases k with ⟨h, e⟩ | ⟨h', h, e⟩ | ⟨h, e⟩ | ⟨h, _, e⟩ | ⟨h, e⟩
  all_goals simp only [memWrite, e]
  · exact .inl ⟨h, trivial⟩
  · exact .inr (.inl ⟨h', h, rfl⟩)
  · exact .inr (.inr (.inl ⟨h, trivial⟩))
  · exact .inr (.inr (.inr ⟨h, trivial⟩))
  · exact .inr (.inr (.inr ⟨by omega, trivial⟩))

theorem peek_eq_some {s : State} {k : Nat} {v : Word} :
    peek s k = some v ↔ memRead k s = .ok v := by
  unfold peek
  cases memRead k s <;> simp [Except.toOption]

/-- Reading depends only on the data memory and the keyboard word. -/
theorem memRead_congr {s t : State} (hr : t.ram = s.ram) (hs : t.screen = s.screen)
    (hk : t.kbd = s.kbd) (k : Nat) : memRead k t = memRead k s := by
  simp [memRead, hr, hs, hk]

end Sys2Proof.Machine
end

