-- ==== Sys2Proof/Laws/Compute.lean ====
section
/-! SUPPORT. Everything a C-instruction's shared operations can do. -/

namespace Sys2Proof.Machine

@[simp] theorem operandY_a (s : State) : operandY .a s = .ok s.a := rfl

@[simp] theorem operandY_m (s : State) : operandY .m s = memRead s.a.toNat s := rfl

@[simp] theorem storeM_of_not {dest : Dest} (h : dest.m = false) (out : Word) (s : State) :
    storeM dest out s = .ok s := by simp [storeM, h]

@[simp] theorem storeM_of {dest : Dest} (h : dest.m = true) (out : Word) (s : State) :
    storeM dest out s = memWrite s.a.toNat out s := by simp [storeM, h]

/-- A store that succeeds leaves the registers, KBD, ROM and the fault mark. -/
theorem storeM_ok {dest : Dest} {out : Word} {s t : State} (h : storeM dest out s = .ok t) :
    t.a = s.a ∧ t.d = s.d ∧ t.pc = s.pc ∧ t.kbd = s.kbd ∧ t.rom = s.rom ∧ t.fault = s.fault := by
  cases hm : dest.m with
  | false => rw [storeM_of_not hm] at h; cases h; simp
  | true =>
    rw [storeM_of hm] at h
    rcases memWrite_cases s.a.toNat out s with ⟨-, e⟩ | ⟨-, -, e⟩ | ⟨-, e⟩ | ⟨-, e⟩ <;>
      rw [e] at h <;> cases h <;> simp

/-- If a C-instruction answers a next state, its operand was read, its store was made, and the next
state is the stored one with A, D and PC written. -/
theorem compute_next {p : Params} {src : Operand} {f : Word → Word → Word} {dest : Dest}
    {jump : Jump} {s t : State} (h : compute p src f dest jump s = .next t) :
    ∃ y m, operandY src s = .ok y ∧ storeM dest (f s.d y) s = .ok m ∧
      t = { m with
        a := nextA dest (f s.d y) s
        d := nextD dest (f s.d y) s
        pc := nextPc p dest jump (f s.d y) s } := by
  unfold compute writeBack at h
  split at h
  · cases h
  · rename_i y hy
    split at h
    · cases h
    · rename_i m hm
      cases h
      exact ⟨y, m, hy, hm, rfl⟩

/-- If a C-instruction faults, its operand read faulted, or that read succeeded and its store
faulted. -/
theorem compute_fault {p : Params} {src : Operand} {f : Word → Word → Word} {dest : Dest}
    {jump : Jump} {s : State} {r : Fault} (h : compute p src f dest jump s = .fault r) :
    operandY src s = .error r ∨
      ∃ y, operandY src s = .ok y ∧ storeM dest (f s.d y) s = .error r := by
  unfold compute writeBack at h
  split at h
  · rename_i e
    cases h
    exact .inl e
  · rename_i y hy
    split at h
    · rename_i e
      cases h
      exact .inr ⟨y, hy, e⟩
    · cases h

theorem compute_ne_refused (p : Params) (src : Operand) (f : Word → Word → Word) (dest : Dest)
    (jump : Jump) (s : State) (r : Refusal) : compute p src f dest jump s ≠ .refused r := by
  unfold compute writeBack
  split
  · simp
  · split <;> simp

end Sys2Proof.Machine
end

