-- ==== Sys2Proof/Laws/Encoding.lean ====
section
/-! SUPPORT. The bits of an encoded view, one lemma for each bit of a C-instruction's word, the
field maps inverted, and what the lines of the notation emit. -/

namespace Sys2Proof

@[simp] theorem Operand.ofBit_bit (src : Operand) : Operand.ofBit src.bit = src := by
  cases src <;> rfl

@[simp] theorem Operand.bit_ofBit (b : Bool) : (Operand.ofBit b).bit = b := by cases b <;> rfl

@[simp] theorem Jump.ofBits_bits (j : Jump) : Jump.ofBits j.lt j.eq j.gt = j := by
  cases j <;> rfl

@[simp] theorem Jump.lt_ofBits (a b c : Bool) : (Jump.ofBits a b c).lt = a := by
  cases a <;> cases b <;> cases c <;> rfl

@[simp] theorem Jump.eq_ofBits (a b c : Bool) : (Jump.ofBits a b c).eq = b := by
  cases a <;> cases b <;> cases c <;> rfl

@[simp] theorem Jump.gt_ofBits (a b c : Bool) : (Jump.ofBits a b c).gt = c := by
  cases a <;> cases b <;> cases c <;> rfl

section

variable (u : BitVec 2) (src : Operand) (k : Ctl) (d : Dest) (j : Jump)

theorem wordOfView_c_bit15 : (wordOfView (.c u src k d j)).getLsbD 15 = true := by
  simp only [wordOfView, BitVec.getLsbD_append, BitVec.getLsbD_ofBool]
  simp [-BitVec.getLsbD_eq_getElem]

theorem wordOfView_c_bit14 : (wordOfView (.c u src k d j)).getLsbD 14 = u.getLsbD 1 := by
  simp only [wordOfView, BitVec.getLsbD_append, BitVec.getLsbD_ofBool]
  simp [-BitVec.getLsbD_eq_getElem]

theorem wordOfView_c_bit13 : (wordOfView (.c u src k d j)).getLsbD 13 = u.getLsbD 0 := by
  simp only [wordOfView, BitVec.getLsbD_append, BitVec.getLsbD_ofBool]
  simp [-BitVec.getLsbD_eq_getElem]

theorem wordOfView_c_bit12 : (wordOfView (.c u src k d j)).getLsbD 12 = src.bit := by
  simp only [wordOfView, BitVec.getLsbD_append, BitVec.getLsbD_ofBool]
  simp [-BitVec.getLsbD_eq_getElem]

theorem wordOfView_c_bit11 : (wordOfView (.c u src k d j)).getLsbD 11 = k.zx := by
  simp only [wordOfView, BitVec.getLsbD_append, BitVec.getLsbD_ofBool]
  simp [-BitVec.getLsbD_eq_getElem]

theorem wordOfView_c_bit10 : (wordOfView (.c u src k d j)).getLsbD 10 = k.nx := by
  simp only [wordOfView, BitVec.getLsbD_append, BitVec.getLsbD_ofBool]
  simp [-BitVec.getLsbD_eq_getElem]

theorem wordOfView_c_bit9 : (wordOfView (.c u src k d j)).getLsbD 9 = k.zy := by
  simp only [wordOfView, BitVec.getLsbD_append, BitVec.getLsbD_ofBool]
  simp [-BitVec.getLsbD_eq_getElem]

theorem wordOfView_c_bit8 : (wordOfView (.c u src k d j)).getLsbD 8 = k.ny := by
  simp only [wordOfView, BitVec.getLsbD_append, BitVec.getLsbD_ofBool]
  simp [-BitVec.getLsbD_eq_getElem]

theorem wordOfView_c_bit7 : (wordOfView (.c u src k d j)).getLsbD 7 = k.f := by
  simp only [wordOfView, BitVec.getLsbD_append, BitVec.getLsbD_ofBool]
  simp [-BitVec.getLsbD_eq_getElem]

theorem wordOfView_c_bit6 : (wordOfView (.c u src k d j)).getLsbD 6 = k.no := by
  simp only [wordOfView, BitVec.getLsbD_append, BitVec.getLsbD_ofBool]
  simp [-BitVec.getLsbD_eq_getElem]

theorem wordOfView_c_bit5 : (wordOfView (.c u src k d j)).getLsbD 5 = d.a := by
  simp only [wordOfView, BitVec.getLsbD_append, BitVec.getLsbD_ofBool]
  simp [-BitVec.getLsbD_eq_getElem]

theorem wordOfView_c_bit4 : (wordOfView (.c u src k d j)).getLsbD 4 = d.d := by
  simp only [wordOfView, BitVec.getLsbD_append, BitVec.getLsbD_ofBool]
  simp [-BitVec.getLsbD_eq_getElem]

theorem wordOfView_c_bit3 : (wordOfView (.c u src k d j)).getLsbD 3 = d.m := by
  simp only [wordOfView, BitVec.getLsbD_append, BitVec.getLsbD_ofBool]
  simp [-BitVec.getLsbD_eq_getElem]

theorem wordOfView_c_bit2 : (wordOfView (.c u src k d j)).getLsbD 2 = j.lt := by
  simp only [wordOfView, BitVec.getLsbD_append, BitVec.getLsbD_ofBool]
  simp [-BitVec.getLsbD_eq_getElem]

theorem wordOfView_c_bit1 : (wordOfView (.c u src k d j)).getLsbD 1 = j.eq := by
  simp only [wordOfView, BitVec.getLsbD_append, BitVec.getLsbD_ofBool]
  simp [-BitVec.getLsbD_eq_getElem]

theorem wordOfView_c_bit0 : (wordOfView (.c u src k d j)).getLsbD 0 = j.gt := by
  simp only [wordOfView, BitVec.getLsbD_append, BitVec.getLsbD_ofBool]
  simp [-BitVec.getLsbD_eq_getElem]

end

theorem wordOfView_a_bit15 (v : Word) : (wordOfView (.a v)).getLsbD 15 = false := by
  simp only [wordOfView, BitVec.getLsbD_append]
  simp [-BitVec.getLsbD_eq_getElem]

theorem wordOfView_a_bits (v : Word) {n : Nat} (h : n < 15) :
    (wordOfView (.a v)).getLsbD n = v.getLsbD n := by
  simp only [wordOfView, BitVec.getLsbD_append, BitVec.getLsbD_extractLsb']
  simp [-BitVec.getLsbD_eq_getElem, h]

namespace Machine

@[simp] theorem emitted_nil : emitted [] = [] := rfl

@[simp] theorem emitted_instruction (i : Instr) (lines : List SourceLine) :
    emitted (.instruction i :: lines) = encode i :: emitted lines := rfl

@[simp] theorem emitted_label (name : String) (lines : List SourceLine) :
    emitted (.label name :: lines) = emitted lines := rfl

end Machine

end Sys2Proof
end

