-- ==== Sys2Proof/Laws/Exec.lean ====
section
/-! SUPPORT. Everything an instruction can be: an A-instruction, or the shared operation of the
C-instructions with some function. Proofs over all instructions start here. -/

namespace Sys2Proof.Machine

/-- The function a comp value computes from its two operands. -/
def compFunction (i : Instr) : Word → Word → Word :=
  match i with
  | .aInstr _ => fun _ y => y
  | .compZero .. => fun _ _ => 0x0000
  | .compOne .. => fun _ _ => 0x0001
  | .compNegOne .. => fun _ _ => 0xFFFF
  | .compD .. => fun x _ => x
  | .compA .. => fun _ y => y
  | .compM .. => fun _ y => y
  | .compNotD .. => fun x _ => ~~~x
  | .compNotA .. => fun _ y => ~~~y
  | .compNotM .. => fun _ y => ~~~y
  | .compNegD .. => fun x _ => 0 - x
  | .compNegA .. => fun _ y => 0 - y
  | .compNegM .. => fun _ y => 0 - y
  | .compDPlus1 .. => fun x _ => x + 1
  | .compAPlus1 .. => fun _ y => y + 1
  | .compMPlus1 .. => fun _ y => y + 1
  | .compDMinus1 .. => fun x _ => x - 1
  | .compAMinus1 .. => fun _ y => y - 1
  | .compMMinus1 .. => fun _ y => y - 1
  | .compDPlusA .. => fun x y => x + y
  | .compDPlusM .. => fun x y => x + y
  | .compDMinusA .. => fun x y => x - y
  | .compDMinusM .. => fun x y => x - y
  | .compAMinusD .. => fun x y => y - x
  | .compMMinusD .. => fun x y => y - x
  | .compDAndA .. => fun x y => x &&& y
  | .compDAndM .. => fun x y => x &&& y
  | .compDOrA .. => fun x y => x ||| y
  | .compDOrM .. => fun x y => x ||| y
  | .alu1_001100 .. => alu ⟨false, false, true, true, false, false⟩
  | .alu1_001101 .. => alu ⟨false, false, true, true, false, true⟩
  | .alu1_001110 .. => alu ⟨false, false, true, true, true, false⟩
  | .alu1_001111 .. => alu ⟨false, false, true, true, true, true⟩
  | .alu1_011111 .. => alu ⟨false, true, true, true, true, true⟩
  | .alu1_101010 .. => alu ⟨true, false, true, false, true, false⟩
  | .alu1_111010 .. => alu ⟨true, true, true, false, true, false⟩
  | .alu1_111111 .. => alu ⟨true, true, true, true, true, true⟩
  | .alu0_000001 .. => params.aluNoncanonical .a ⟨false, false, false, false, false, true⟩
  | .alu0_000011 .. => params.aluNoncanonical .a ⟨false, false, false, false, true, true⟩
  | .alu0_000100 .. => params.aluNoncanonical .a ⟨false, false, false, true, false, false⟩
  | .alu0_000101 .. => params.aluNoncanonical .a ⟨false, false, false, true, false, true⟩
  | .alu0_000110 .. => params.aluNoncanonical .a ⟨false, false, false, true, true, false⟩
  | .alu0_001000 .. => params.aluNoncanonical .a ⟨false, false, true, false, false, false⟩
  | .alu0_001001 .. => params.aluNoncanonical .a ⟨false, false, true, false, false, true⟩
  | .alu0_001010 .. => params.aluNoncanonical .a ⟨false, false, true, false, true, false⟩
  | .alu0_001011 .. => params.aluNoncanonical .a ⟨false, false, true, false, true, true⟩
  | .alu0_010000 .. => params.aluNoncanonical .a ⟨false, true, false, false, false, false⟩
  | .alu0_010001 .. => params.aluNoncanonical .a ⟨false, true, false, false, false, true⟩
  | .alu0_010010 .. => params.aluNoncanonical .a ⟨false, true, false, false, true, false⟩
  | .alu0_010100 .. => params.aluNoncanonical .a ⟨false, true, false, true, false, false⟩
  | .alu0_010110 .. => params.aluNoncanonical .a ⟨false, true, false, true, true, false⟩
  | .alu0_010111 .. => params.aluNoncanonical .a ⟨false, true, false, true, true, true⟩
  | .alu0_011000 .. => params.aluNoncanonical .a ⟨false, true, true, false, false, false⟩
  | .alu0_011001 .. => params.aluNoncanonical .a ⟨false, true, true, false, false, true⟩
  | .alu0_011010 .. => params.aluNoncanonical .a ⟨false, true, true, false, true, false⟩
  | .alu0_011011 .. => params.aluNoncanonical .a ⟨false, true, true, false, true, true⟩
  | .alu0_011100 .. => params.aluNoncanonical .a ⟨false, true, true, true, false, false⟩
  | .alu0_011101 .. => params.aluNoncanonical .a ⟨false, true, true, true, false, true⟩
  | .alu0_011110 .. => params.aluNoncanonical .a ⟨false, true, true, true, true, false⟩
  | .alu0_100000 .. => params.aluNoncanonical .a ⟨true, false, false, false, false, false⟩
  | .alu0_100001 .. => params.aluNoncanonical .a ⟨true, false, false, false, false, true⟩
  | .alu0_100010 .. => params.aluNoncanonical .a ⟨true, false, false, false, true, false⟩
  | .alu0_100011 .. => params.aluNoncanonical .a ⟨true, false, false, false, true, true⟩
  | .alu0_100100 .. => params.aluNoncanonical .a ⟨true, false, false, true, false, false⟩
  | .alu0_100101 .. => params.aluNoncanonical .a ⟨true, false, false, true, false, true⟩
  | .alu0_100110 .. => params.aluNoncanonical .a ⟨true, false, false, true, true, false⟩
  | .alu0_100111 .. => params.aluNoncanonical .a ⟨true, false, false, true, true, true⟩
  | .alu0_101000 .. => params.aluNoncanonical .a ⟨true, false, true, false, false, false⟩
  | .alu0_101001 .. => params.aluNoncanonical .a ⟨true, false, true, false, false, true⟩
  | .alu0_101011 .. => params.aluNoncanonical .a ⟨true, false, true, false, true, true⟩
  | .alu0_101100 .. => params.aluNoncanonical .a ⟨true, false, true, true, false, false⟩
  | .alu0_101101 .. => params.aluNoncanonical .a ⟨true, false, true, true, false, true⟩
  | .alu0_101110 .. => params.aluNoncanonical .a ⟨true, false, true, true, true, false⟩
  | .alu0_101111 .. => params.aluNoncanonical .a ⟨true, false, true, true, true, true⟩
  | .alu0_110100 .. => params.aluNoncanonical .a ⟨true, true, false, true, false, false⟩
  | .alu0_110101 .. => params.aluNoncanonical .a ⟨true, true, false, true, false, true⟩
  | .alu0_110110 .. => params.aluNoncanonical .a ⟨true, true, false, true, true, false⟩
  | .alu0_111000 .. => params.aluNoncanonical .a ⟨true, true, true, false, false, false⟩
  | .alu0_111001 .. => params.aluNoncanonical .a ⟨true, true, true, false, false, true⟩
  | .alu0_111011 .. => params.aluNoncanonical .a ⟨true, true, true, false, true, true⟩
  | .alu0_111100 .. => params.aluNoncanonical .a ⟨true, true, true, true, false, false⟩
  | .alu0_111101 .. => params.aluNoncanonical .a ⟨true, true, true, true, false, true⟩
  | .alu0_111110 .. => params.aluNoncanonical .a ⟨true, true, true, true, true, false⟩
  | .alu1_000001 .. => params.aluNoncanonical .m ⟨false, false, false, false, false, true⟩
  | .alu1_000011 .. => params.aluNoncanonical .m ⟨false, false, false, false, true, true⟩
  | .alu1_000100 .. => params.aluNoncanonical .m ⟨false, false, false, true, false, false⟩
  | .alu1_000101 .. => params.aluNoncanonical .m ⟨false, false, false, true, false, true⟩
  | .alu1_000110 .. => params.aluNoncanonical .m ⟨false, false, false, true, true, false⟩
  | .alu1_001000 .. => params.aluNoncanonical .m ⟨false, false, true, false, false, false⟩
  | .alu1_001001 .. => params.aluNoncanonical .m ⟨false, false, true, false, false, true⟩
  | .alu1_001010 .. => params.aluNoncanonical .m ⟨false, false, true, false, true, false⟩
  | .alu1_001011 .. => params.aluNoncanonical .m ⟨false, false, true, false, true, true⟩
  | .alu1_010000 .. => params.aluNoncanonical .m ⟨false, true, false, false, false, false⟩
  | .alu1_010001 .. => params.aluNoncanonical .m ⟨false, true, false, false, false, true⟩
  | .alu1_010010 .. => params.aluNoncanonical .m ⟨false, true, false, false, true, false⟩
  | .alu1_010100 .. => params.aluNoncanonical .m ⟨false, true, false, true, false, false⟩
  | .alu1_010110 .. => params.aluNoncanonical .m ⟨false, true, false, true, true, false⟩
  | .alu1_010111 .. => params.aluNoncanonical .m ⟨false, true, false, true, true, true⟩
  | .alu1_011000 .. => params.aluNoncanonical .m ⟨false, true, true, false, false, false⟩
  | .alu1_011001 .. => params.aluNoncanonical .m ⟨false, true, true, false, false, true⟩
  | .alu1_011010 .. => params.aluNoncanonical .m ⟨false, true, true, false, true, false⟩
  | .alu1_011011 .. => params.aluNoncanonical .m ⟨false, true, true, false, true, true⟩
  | .alu1_011100 .. => params.aluNoncanonical .m ⟨false, true, true, true, false, false⟩
  | .alu1_011101 .. => params.aluNoncanonical .m ⟨false, true, true, true, false, true⟩
  | .alu1_011110 .. => params.aluNoncanonical .m ⟨false, true, true, true, true, false⟩
  | .alu1_100000 .. => params.aluNoncanonical .m ⟨true, false, false, false, false, false⟩
  | .alu1_100001 .. => params.aluNoncanonical .m ⟨true, false, false, false, false, true⟩
  | .alu1_100010 .. => params.aluNoncanonical .m ⟨true, false, false, false, true, false⟩
  | .alu1_100011 .. => params.aluNoncanonical .m ⟨true, false, false, false, true, true⟩
  | .alu1_100100 .. => params.aluNoncanonical .m ⟨true, false, false, true, false, false⟩
  | .alu1_100101 .. => params.aluNoncanonical .m ⟨true, false, false, true, false, true⟩
  | .alu1_100110 .. => params.aluNoncanonical .m ⟨true, false, false, true, true, false⟩
  | .alu1_100111 .. => params.aluNoncanonical .m ⟨true, false, false, true, true, true⟩
  | .alu1_101000 .. => params.aluNoncanonical .m ⟨true, false, true, false, false, false⟩
  | .alu1_101001 .. => params.aluNoncanonical .m ⟨true, false, true, false, false, true⟩
  | .alu1_101011 .. => params.aluNoncanonical .m ⟨true, false, true, false, true, true⟩
  | .alu1_101100 .. => params.aluNoncanonical .m ⟨true, false, true, true, false, false⟩
  | .alu1_101101 .. => params.aluNoncanonical .m ⟨true, false, true, true, false, true⟩
  | .alu1_101110 .. => params.aluNoncanonical .m ⟨true, false, true, true, true, false⟩
  | .alu1_101111 .. => params.aluNoncanonical .m ⟨true, false, true, true, true, true⟩
  | .alu1_110100 .. => params.aluNoncanonical .m ⟨true, true, false, true, false, false⟩
  | .alu1_110101 .. => params.aluNoncanonical .m ⟨true, true, false, true, false, true⟩
  | .alu1_110110 .. => params.aluNoncanonical .m ⟨true, true, false, true, true, false⟩
  | .alu1_111000 .. => params.aluNoncanonical .m ⟨true, true, true, false, false, false⟩
  | .alu1_111001 .. => params.aluNoncanonical .m ⟨true, true, true, false, false, true⟩
  | .alu1_111011 .. => params.aluNoncanonical .m ⟨true, true, true, false, true, true⟩
  | .alu1_111100 .. => params.aluNoncanonical .m ⟨true, true, true, true, false, false⟩
  | .alu1_111101 .. => params.aluNoncanonical .m ⟨true, true, true, true, false, true⟩
  | .alu1_111110 .. => params.aluNoncanonical .m ⟨true, true, true, true, true, false⟩

/-- Each instruction is `@v`, or computes its function of its operands. -/
theorem exec_shape (i : Instr) (s : State) :
    (∃ v, i = .aInstr v ∧ i.view = .a v ∧ exec i s = execAInstr v s) ∨
      ∃ u src code dest jump, i.view = .c u src code dest jump ∧
        exec i s = compute params src (compFunction i) dest jump s := by
  cases i
  case aInstr v => exact .inl ⟨v, rfl, rfl, rfl⟩
  all_goals exact .inr ⟨_, _, _, _, _, rfl, rfl⟩

end Sys2Proof.Machine
end

