-- ==== Sys2Proof/Laws/PerInstr.lean ====
section
/-! SUPPORT. Facts about instructions as syntax, one lemma per constructor of `Instr`. -/

namespace Sys2Proof.Laws

/-- The opcode map gives back the instruction whose decoded view it reads (30_encoding.md R77,
R80). -/
def ViewRoundTrip.Statement (i : Instr) : Prop := Instr.ofView i.view = i

theorem ViewRoundTrip.aInstr (v : Word) : ViewRoundTrip.Statement (.aInstr v) := rfl
theorem ViewRoundTrip.compZero (u : BitVec 2) (d : Dest) (j : Jump) : ViewRoundTrip.Statement (.compZero u d j) := rfl
theorem ViewRoundTrip.compOne (u : BitVec 2) (d : Dest) (j : Jump) : ViewRoundTrip.Statement (.compOne u d j) := rfl
theorem ViewRoundTrip.compNegOne (u : BitVec 2) (d : Dest) (j : Jump) : ViewRoundTrip.Statement (.compNegOne u d j) := rfl
theorem ViewRoundTrip.compD (u : BitVec 2) (d : Dest) (j : Jump) : ViewRoundTrip.Statement (.compD u d j) := rfl
theorem ViewRoundTrip.compA (u : BitVec 2) (d : Dest) (j : Jump) : ViewRoundTrip.Statement (.compA u d j) := rfl
theorem ViewRoundTrip.compM (u : BitVec 2) (d : Dest) (j : Jump) : ViewRoundTrip.Statement (.compM u d j) := rfl
theorem ViewRoundTrip.compNotD (u : BitVec 2) (d : Dest) (j : Jump) : ViewRoundTrip.Statement (.compNotD u d j) := rfl
theorem ViewRoundTrip.compNotA (u : BitVec 2) (d : Dest) (j : Jump) : ViewRoundTrip.Statement (.compNotA u d j) := rfl
theorem ViewRoundTrip.compNotM (u : BitVec 2) (d : Dest) (j : Jump) : ViewRoundTrip.Statement (.compNotM u d j) := rfl
theorem ViewRoundTrip.compNegD (u : BitVec 2) (d : Dest) (j : Jump) : ViewRoundTrip.Statement (.compNegD u d j) := rfl
theorem ViewRoundTrip.compNegA (u : BitVec 2) (d : Dest) (j : Jump) : ViewRoundTrip.Statement (.compNegA u d j) := rfl
theorem ViewRoundTrip.compNegM (u : BitVec 2) (d : Dest) (j : Jump) : ViewRoundTrip.Statement (.compNegM u d j) := rfl
theorem ViewRoundTrip.compDPlus1 (u : BitVec 2) (d : Dest) (j : Jump) : ViewRoundTrip.Statement (.compDPlus1 u d j) := rfl
theorem ViewRoundTrip.compAPlus1 (u : BitVec 2) (d : Dest) (j : Jump) : ViewRoundTrip.Statement (.compAPlus1 u d j) := rfl
theorem ViewRoundTrip.compMPlus1 (u : BitVec 2) (d : Dest) (j : Jump) : ViewRoundTrip.Statement (.compMPlus1 u d j) := rfl
theorem ViewRoundTrip.compDMinus1 (u : BitVec 2) (d : Dest) (j : Jump) : ViewRoundTrip.Statement (.compDMinus1 u d j) := rfl
theorem ViewRoundTrip.compAMinus1 (u : BitVec 2) (d : Dest) (j : Jump) : ViewRoundTrip.Statement (.compAMinus1 u d j) := rfl
theorem ViewRoundTrip.compMMinus1 (u : BitVec 2) (d : Dest) (j : Jump) : ViewRoundTrip.Statement (.compMMinus1 u d j) := rfl
theorem ViewRoundTrip.compDPlusA (u : BitVec 2) (d : Dest) (j : Jump) : ViewRoundTrip.Statement (.compDPlusA u d j) := rfl
theorem ViewRoundTrip.compDPlusM (u : BitVec 2) (d : Dest) (j : Jump) : ViewRoundTrip.Statement (.compDPlusM u d j) := rfl
theorem ViewRoundTrip.compDMinusA (u : BitVec 2) (d : Dest) (j : Jump) : ViewRoundTrip.Statement (.compDMinusA u d j) := rfl
theorem ViewRoundTrip.compDMinusM (u : BitVec 2) (d : Dest) (j : Jump) : ViewRoundTrip.Statement (.compDMinusM u d j) := rfl
theorem ViewRoundTrip.compAMinusD (u : BitVec 2) (d : Dest) (j : Jump) : ViewRoundTrip.Statement (.compAMinusD u d j) := rfl
theorem ViewRoundTrip.compMMinusD (u : BitVec 2) (d : Dest) (j : Jump) : ViewRoundTrip.Statement (.compMMinusD u d j) := rfl
theorem ViewRoundTrip.compDAndA (u : BitVec 2) (d : Dest) (j : Jump) : ViewRoundTrip.Statement (.compDAndA u d j) := rfl
theorem ViewRoundTrip.compDAndM (u : BitVec 2) (d : Dest) (j : Jump) : ViewRoundTrip.Statement (.compDAndM u d j) := rfl
theorem ViewRoundTrip.compDOrA (u : BitVec 2) (d : Dest) (j : Jump) : ViewRoundTrip.Statement (.compDOrA u d j) := rfl
theorem ViewRoundTrip.compDOrM (u : BitVec 2) (d : Dest) (j : Jump) : ViewRoundTrip.Statement (.compDOrM u d j) := rfl
theorem ViewRoundTrip.alu1_001100 (u : BitVec 2) (d : Dest) (j : Jump) : ViewRoundTrip.Statement (.alu1_001100 u d j) := rfl
theorem ViewRoundTrip.alu1_001101 (u : BitVec 2) (d : Dest) (j : Jump) : ViewRoundTrip.Statement (.alu1_001101 u d j) := rfl
theorem ViewRoundTrip.alu1_001110 (u : BitVec 2) (d : Dest) (j : Jump) : ViewRoundTrip.Statement (.alu1_001110 u d j) := rfl
theorem ViewRoundTrip.alu1_001111 (u : BitVec 2) (d : Dest) (j : Jump) : ViewRoundTrip.Statement (.alu1_001111 u d j) := rfl
theorem ViewRoundTrip.alu1_011111 (u : BitVec 2) (d : Dest) (j : Jump) : ViewRoundTrip.Statement (.alu1_011111 u d j) := rfl
theorem ViewRoundTrip.alu1_101010 (u : BitVec 2) (d : Dest) (j : Jump) : ViewRoundTrip.Statement (.alu1_101010 u d j) := rfl
theorem ViewRoundTrip.alu1_111010 (u : BitVec 2) (d : Dest) (j : Jump) : ViewRoundTrip.Statement (.alu1_111010 u d j) := rfl
theorem ViewRoundTrip.alu1_111111 (u : BitVec 2) (d : Dest) (j : Jump) : ViewRoundTrip.Statement (.alu1_111111 u d j) := rfl
theorem ViewRoundTrip.alu0_000001 (u : BitVec 2) (d : Dest) (j : Jump) : ViewRoundTrip.Statement (.alu0_000001 u d j) := rfl
theorem ViewRoundTrip.alu0_000011 (u : BitVec 2) (d : Dest) (j : Jump) : ViewRoundTrip.Statement (.alu0_000011 u d j) := rfl
theorem ViewRoundTrip.alu0_000100 (u : BitVec 2) (d : Dest) (j : Jump) : ViewRoundTrip.Statement (.alu0_000100 u d j) := rfl
theorem ViewRoundTrip.alu0_000101 (u : BitVec 2) (d : Dest) (j : Jump) : ViewRoundTrip.Statement (.alu0_000101 u d j) := rfl
theorem ViewRoundTrip.alu0_000110 (u : BitVec 2) (d : Dest) (j : Jump) : ViewRoundTrip.Statement (.alu0_000110 u d j) := rfl
theorem ViewRoundTrip.alu0_001000 (u : BitVec 2) (d : Dest) (j : Jump) : ViewRoundTrip.Statement (.alu0_001000 u d j) := rfl
theorem ViewRoundTrip.alu0_001001 (u : BitVec 2) (d : Dest) (j : Jump) : ViewRoundTrip.Statement (.alu0_001001 u d j) := rfl
theorem ViewRoundTrip.alu0_001010 (u : BitVec 2) (d : Dest) (j : Jump) : ViewRoundTrip.Statement (.alu0_001010 u d j) := rfl
theorem ViewRoundTrip.alu0_001011 (u : BitVec 2) (d : Dest) (j : Jump) : ViewRoundTrip.Statement (.alu0_001011 u d j) := rfl
theorem ViewRoundTrip.alu0_010000 (u : BitVec 2) (d : Dest) (j : Jump) : ViewRoundTrip.Statement (.alu0_010000 u d j) := rfl
theorem ViewRoundTrip.alu0_010001 (u : BitVec 2) (d : Dest) (j : Jump) : ViewRoundTrip.Statement (.alu0_010001 u d j) := rfl
theorem ViewRoundTrip.alu0_010010 (u : BitVec 2) (d : Dest) (j : Jump) : ViewRoundTrip.Statement (.alu0_010010 u d j) := rfl
theorem ViewRoundTrip.alu0_010100 (u : BitVec 2) (d : Dest) (j : Jump) : ViewRoundTrip.Statement (.alu0_010100 u d j) := rfl
theorem ViewRoundTrip.alu0_010110 (u : BitVec 2) (d : Dest) (j : Jump) : ViewRoundTrip.Statement (.alu0_010110 u d j) := rfl
theorem ViewRoundTrip.alu0_010111 (u : BitVec 2) (d : Dest) (j : Jump) : ViewRoundTrip.Statement (.alu0_010111 u d j) := rfl
theorem ViewRoundTrip.alu0_011000 (u : BitVec 2) (d : Dest) (j : Jump) : ViewRoundTrip.Statement (.alu0_011000 u d j) := rfl
theorem ViewRoundTrip.alu0_011001 (u : BitVec 2) (d : Dest) (j : Jump) : ViewRoundTrip.Statement (.alu0_011001 u d j) := rfl
theorem ViewRoundTrip.alu0_011010 (u : BitVec 2) (d : Dest) (j : Jump) : ViewRoundTrip.Statement (.alu0_011010 u d j) := rfl
theorem ViewRoundTrip.alu0_011011 (u : BitVec 2) (d : Dest) (j : Jump) : ViewRoundTrip.Statement (.alu0_011011 u d j) := rfl
theorem ViewRoundTrip.alu0_011100 (u : BitVec 2) (d : Dest) (j : Jump) : ViewRoundTrip.Statement (.alu0_011100 u d j) := rfl
theorem ViewRoundTrip.alu0_011101 (u : BitVec 2) (d : Dest) (j : Jump) : ViewRoundTrip.Statement (.alu0_011101 u d j) := rfl
theorem ViewRoundTrip.alu0_011110 (u : BitVec 2) (d : Dest) (j : Jump) : ViewRoundTrip.Statement (.alu0_011110 u d j) := rfl
theorem ViewRoundTrip.alu0_100000 (u : BitVec 2) (d : Dest) (j : Jump) : ViewRoundTrip.Statement (.alu0_100000 u d j) := rfl
theorem ViewRoundTrip.alu0_100001 (u : BitVec 2) (d : Dest) (j : Jump) : ViewRoundTrip.Statement (.alu0_100001 u d j) := rfl
theorem ViewRoundTrip.alu0_100010 (u : BitVec 2) (d : Dest) (j : Jump) : ViewRoundTrip.Statement (.alu0_100010 u d j) := rfl
theorem ViewRoundTrip.alu0_100011 (u : BitVec 2) (d : Dest) (j : Jump) : ViewRoundTrip.Statement (.alu0_100011 u d j) := rfl
theorem ViewRoundTrip.alu0_100100 (u : BitVec 2) (d : Dest) (j : Jump) : ViewRoundTrip.Statement (.alu0_100100 u d j) := rfl
theorem ViewRoundTrip.alu0_100101 (u : BitVec 2) (d : Dest) (j : Jump) : ViewRoundTrip.Statement (.alu0_100101 u d j) := rfl
theorem ViewRoundTrip.alu0_100110 (u : BitVec 2) (d : Dest) (j : Jump) : ViewRoundTrip.Statement (.alu0_100110 u d j) := rfl
theorem ViewRoundTrip.alu0_100111 (u : BitVec 2) (d : Dest) (j : Jump) : ViewRoundTrip.Statement (.alu0_100111 u d j) := rfl
theorem ViewRoundTrip.alu0_101000 (u : BitVec 2) (d : Dest) (j : Jump) : ViewRoundTrip.Statement (.alu0_101000 u d j) := rfl
theorem ViewRoundTrip.alu0_101001 (u : BitVec 2) (d : Dest) (j : Jump) : ViewRoundTrip.Statement (.alu0_101001 u d j) := rfl
theorem ViewRoundTrip.alu0_101011 (u : BitVec 2) (d : Dest) (j : Jump) : ViewRoundTrip.Statement (.alu0_101011 u d j) := rfl
theorem ViewRoundTrip.alu0_101100 (u : BitVec 2) (d : Dest) (j : Jump) : ViewRoundTrip.Statement (.alu0_101100 u d j) := rfl
theorem ViewRoundTrip.alu0_101101 (u : BitVec 2) (d : Dest) (j : Jump) : ViewRoundTrip.Statement (.alu0_101101 u d j) := rfl
theorem ViewRoundTrip.alu0_101110 (u : BitVec 2) (d : Dest) (j : Jump) : ViewRoundTrip.Statement (.alu0_101110 u d j) := rfl
theorem ViewRoundTrip.alu0_101111 (u : BitVec 2) (d : Dest) (j : Jump) : ViewRoundTrip.Statement (.alu0_101111 u d j) := rfl
theorem ViewRoundTrip.alu0_110100 (u : BitVec 2) (d : Dest) (j : Jump) : ViewRoundTrip.Statement (.alu0_110100 u d j) := rfl
theorem ViewRoundTrip.alu0_110101 (u : BitVec 2) (d : Dest) (j : Jump) : ViewRoundTrip.Statement (.alu0_110101 u d j) := rfl
theorem ViewRoundTrip.alu0_110110 (u : BitVec 2) (d : Dest) (j : Jump) : ViewRoundTrip.Statement (.alu0_110110 u d j) := rfl
theorem ViewRoundTrip.alu0_111000 (u : BitVec 2) (d : Dest) (j : Jump) : ViewRoundTrip.Statement (.alu0_111000 u d j) := rfl
theorem ViewRoundTrip.alu0_111001 (u : BitVec 2) (d : Dest) (j : Jump) : ViewRoundTrip.Statement (.alu0_111001 u d j) := rfl
theorem ViewRoundTrip.alu0_111011 (u : BitVec 2) (d : Dest) (j : Jump) : ViewRoundTrip.Statement (.alu0_111011 u d j) := rfl
theorem ViewRoundTrip.alu0_111100 (u : BitVec 2) (d : Dest) (j : Jump) : ViewRoundTrip.Statement (.alu0_111100 u d j) := rfl
theorem ViewRoundTrip.alu0_111101 (u : BitVec 2) (d : Dest) (j : Jump) : ViewRoundTrip.Statement (.alu0_111101 u d j) := rfl
theorem ViewRoundTrip.alu0_111110 (u : BitVec 2) (d : Dest) (j : Jump) : ViewRoundTrip.Statement (.alu0_111110 u d j) := rfl
theorem ViewRoundTrip.alu1_000001 (u : BitVec 2) (d : Dest) (j : Jump) : ViewRoundTrip.Statement (.alu1_000001 u d j) := rfl
theorem ViewRoundTrip.alu1_000011 (u : BitVec 2) (d : Dest) (j : Jump) : ViewRoundTrip.Statement (.alu1_000011 u d j) := rfl
theorem ViewRoundTrip.alu1_000100 (u : BitVec 2) (d : Dest) (j : Jump) : ViewRoundTrip.Statement (.alu1_000100 u d j) := rfl
theorem ViewRoundTrip.alu1_000101 (u : BitVec 2) (d : Dest) (j : Jump) : ViewRoundTrip.Statement (.alu1_000101 u d j) := rfl
theorem ViewRoundTrip.alu1_000110 (u : BitVec 2) (d : Dest) (j : Jump) : ViewRoundTrip.Statement (.alu1_000110 u d j) := rfl
theorem ViewRoundTrip.alu1_001000 (u : BitVec 2) (d : Dest) (j : Jump) : ViewRoundTrip.Statement (.alu1_001000 u d j) := rfl
theorem ViewRoundTrip.alu1_001001 (u : BitVec 2) (d : Dest) (j : Jump) : ViewRoundTrip.Statement (.alu1_001001 u d j) := rfl
theorem ViewRoundTrip.alu1_001010 (u : BitVec 2) (d : Dest) (j : Jump) : ViewRoundTrip.Statement (.alu1_001010 u d j) := rfl
theorem ViewRoundTrip.alu1_001011 (u : BitVec 2) (d : Dest) (j : Jump) : ViewRoundTrip.Statement (.alu1_001011 u d j) := rfl
theorem ViewRoundTrip.alu1_010000 (u : BitVec 2) (d : Dest) (j : Jump) : ViewRoundTrip.Statement (.alu1_010000 u d j) := rfl
theorem ViewRoundTrip.alu1_010001 (u : BitVec 2) (d : Dest) (j : Jump) : ViewRoundTrip.Statement (.alu1_010001 u d j) := rfl
theorem ViewRoundTrip.alu1_010010 (u : BitVec 2) (d : Dest) (j : Jump) : ViewRoundTrip.Statement (.alu1_010010 u d j) := rfl
theorem ViewRoundTrip.alu1_010100 (u : BitVec 2) (d : Dest) (j : Jump) : ViewRoundTrip.Statement (.alu1_010100 u d j) := rfl
theorem ViewRoundTrip.alu1_010110 (u : BitVec 2) (d : Dest) (j : Jump) : ViewRoundTrip.Statement (.alu1_010110 u d j) := rfl
theorem ViewRoundTrip.alu1_010111 (u : BitVec 2) (d : Dest) (j : Jump) : ViewRoundTrip.Statement (.alu1_010111 u d j) := rfl
theorem ViewRoundTrip.alu1_011000 (u : BitVec 2) (d : Dest) (j : Jump) : ViewRoundTrip.Statement (.alu1_011000 u d j) := rfl
theorem ViewRoundTrip.alu1_011001 (u : BitVec 2) (d : Dest) (j : Jump) : ViewRoundTrip.Statement (.alu1_011001 u d j) := rfl
theorem ViewRoundTrip.alu1_011010 (u : BitVec 2) (d : Dest) (j : Jump) : ViewRoundTrip.Statement (.alu1_011010 u d j) := rfl
theorem ViewRoundTrip.alu1_011011 (u : BitVec 2) (d : Dest) (j : Jump) : ViewRoundTrip.Statement (.alu1_011011 u d j) := rfl
theorem ViewRoundTrip.alu1_011100 (u : BitVec 2) (d : Dest) (j : Jump) : ViewRoundTrip.Statement (.alu1_011100 u d j) := rfl
theorem ViewRoundTrip.alu1_011101 (u : BitVec 2) (d : Dest) (j : Jump) : ViewRoundTrip.Statement (.alu1_011101 u d j) := rfl
theorem ViewRoundTrip.alu1_011110 (u : BitVec 2) (d : Dest) (j : Jump) : ViewRoundTrip.Statement (.alu1_011110 u d j) := rfl
theorem ViewRoundTrip.alu1_100000 (u : BitVec 2) (d : Dest) (j : Jump) : ViewRoundTrip.Statement (.alu1_100000 u d j) := rfl
theorem ViewRoundTrip.alu1_100001 (u : BitVec 2) (d : Dest) (j : Jump) : ViewRoundTrip.Statement (.alu1_100001 u d j) := rfl
theorem ViewRoundTrip.alu1_100010 (u : BitVec 2) (d : Dest) (j : Jump) : ViewRoundTrip.Statement (.alu1_100010 u d j) := rfl
theorem ViewRoundTrip.alu1_100011 (u : BitVec 2) (d : Dest) (j : Jump) : ViewRoundTrip.Statement (.alu1_100011 u d j) := rfl
theorem ViewRoundTrip.alu1_100100 (u : BitVec 2) (d : Dest) (j : Jump) : ViewRoundTrip.Statement (.alu1_100100 u d j) := rfl
theorem ViewRoundTrip.alu1_100101 (u : BitVec 2) (d : Dest) (j : Jump) : ViewRoundTrip.Statement (.alu1_100101 u d j) := rfl
theorem ViewRoundTrip.alu1_100110 (u : BitVec 2) (d : Dest) (j : Jump) : ViewRoundTrip.Statement (.alu1_100110 u d j) := rfl
theorem ViewRoundTrip.alu1_100111 (u : BitVec 2) (d : Dest) (j : Jump) : ViewRoundTrip.Statement (.alu1_100111 u d j) := rfl
theorem ViewRoundTrip.alu1_101000 (u : BitVec 2) (d : Dest) (j : Jump) : ViewRoundTrip.Statement (.alu1_101000 u d j) := rfl
theorem ViewRoundTrip.alu1_101001 (u : BitVec 2) (d : Dest) (j : Jump) : ViewRoundTrip.Statement (.alu1_101001 u d j) := rfl
theorem ViewRoundTrip.alu1_101011 (u : BitVec 2) (d : Dest) (j : Jump) : ViewRoundTrip.Statement (.alu1_101011 u d j) := rfl
theorem ViewRoundTrip.alu1_101100 (u : BitVec 2) (d : Dest) (j : Jump) : ViewRoundTrip.Statement (.alu1_101100 u d j) := rfl
theorem ViewRoundTrip.alu1_101101 (u : BitVec 2) (d : Dest) (j : Jump) : ViewRoundTrip.Statement (.alu1_101101 u d j) := rfl
theorem ViewRoundTrip.alu1_101110 (u : BitVec 2) (d : Dest) (j : Jump) : ViewRoundTrip.Statement (.alu1_101110 u d j) := rfl
theorem ViewRoundTrip.alu1_101111 (u : BitVec 2) (d : Dest) (j : Jump) : ViewRoundTrip.Statement (.alu1_101111 u d j) := rfl
theorem ViewRoundTrip.alu1_110100 (u : BitVec 2) (d : Dest) (j : Jump) : ViewRoundTrip.Statement (.alu1_110100 u d j) := rfl
theorem ViewRoundTrip.alu1_110101 (u : BitVec 2) (d : Dest) (j : Jump) : ViewRoundTrip.Statement (.alu1_110101 u d j) := rfl
theorem ViewRoundTrip.alu1_110110 (u : BitVec 2) (d : Dest) (j : Jump) : ViewRoundTrip.Statement (.alu1_110110 u d j) := rfl
theorem ViewRoundTrip.alu1_111000 (u : BitVec 2) (d : Dest) (j : Jump) : ViewRoundTrip.Statement (.alu1_111000 u d j) := rfl
theorem ViewRoundTrip.alu1_111001 (u : BitVec 2) (d : Dest) (j : Jump) : ViewRoundTrip.Statement (.alu1_111001 u d j) := rfl
theorem ViewRoundTrip.alu1_111011 (u : BitVec 2) (d : Dest) (j : Jump) : ViewRoundTrip.Statement (.alu1_111011 u d j) := rfl
theorem ViewRoundTrip.alu1_111100 (u : BitVec 2) (d : Dest) (j : Jump) : ViewRoundTrip.Statement (.alu1_111100 u d j) := rfl
theorem ViewRoundTrip.alu1_111101 (u : BitVec 2) (d : Dest) (j : Jump) : ViewRoundTrip.Statement (.alu1_111101 u d j) := rfl
theorem ViewRoundTrip.alu1_111110 (u : BitVec 2) (d : Dest) (j : Jump) : ViewRoundTrip.Statement (.alu1_111110 u d j) := rfl

theorem ofView_view (i : Instr) : Instr.ofView i.view = i := by cases i <;> rfl

end Sys2Proof.Laws
end

