-- ==== Sys2Proof/Laws/Step.lean ====
section
/-! SUPPORT. Everything a step can do. -/

namespace Sys2Proof.Machine

theorem romRead_ok {pc w : Word} {s : State} : romRead pc s = .ok w ↔ s.rom[pc.toNat]? = some w := by
  unfold romRead
  split <;> simp_all

theorem romRead_error {pc : Word} {s : State} {r : Fault} :
    romRead pc s = .error r ↔ s.rom.length ≤ pc.toNat ∧ r = .fetchOutOfRange pc := by
  unfold romRead
  split
  · rename_i h
    have := (List.getElem?_eq_some_iff.1 h).1
    simp only [reduceCtorEq, false_iff, not_and]
    omega
  · rename_i h
    simp only [Except.error.injEq, List.getElem?_eq_none_iff.1 h, true_and]
    exact eq_comm

/-- If a step answers a next state, there was no fault mark and the word at PC was executed. -/
theorem step_next {s t : State} (h : step s = .next t) :
    s.fault = none ∧ ∃ w, s.rom[s.pc.toNat]? = some w ∧ exec (decode w) s = .next t := by
  unfold step at h
  split at h
  · cases h
  · rename_i hf
    split at h
    · cases h
    · rename_i w hw
      exact ⟨hf, w, romRead_ok.1 hw, h⟩

/-- If a step faults, the mark was set, or the fetch faulted, or the instruction did. -/
theorem step_fault {s : State} {r : Fault} (h : step s = .fault r) :
    s.fault = some r ∨ s.fault = none ∧ s.rom.length ≤ s.pc.toNat ∧ r = .fetchOutOfRange s.pc ∨
      s.fault = none ∧ ∃ w, s.rom[s.pc.toNat]? = some w ∧ exec (decode w) s = .fault r := by
  unfold step at h
  split at h
  · rename_i q hq
    cases h
    exact .inl hq
  · rename_i hf
    split at h
    · rename_i q hq
      cases h
      obtain ⟨h1, h2⟩ := romRead_error.1 hq
      exact .inr (.inl ⟨hf, h1, h2⟩)
    · rename_i w hw
      exact .inr (.inr ⟨hf, w, romRead_ok.1 hw, h⟩)

theorem step_of_fetch {s : State} {w : Word} (hf : s.fault = none)
    (hw : s.rom[s.pc.toNat]? = some w) : step s = exec (decode w) s := by
  simp [step, hf, romRead, hw]

end Sys2Proof.Machine
end

