-- ==== Sys2Proof/Laws/Run.lean ====
section
/-! SUPPORT. Runs: one equation for each outcome of a step, and the induction over a run packaged
once. -/

namespace Sys2Proof.Machine

@[simp] theorem runBy_zero (f : State → StepReport) (bps : List Breakpoint) (s : State) :
    runBy f bps 0 s = (s, .notHalted) := rfl

theorem runBy_faulted {f : State → StepReport} {s t : State} (h : f s = .faulted t)
    (bps : List Breakpoint) (n : Nat) : runBy f bps (n + 1) s = (t, .faulted) := by
  simp [runBy, h]

theorem runBy_halts {f : State → StepReport} {s t : State} {b : Bool} (h : f s = .stepped t b)
    {bps : List Breakpoint} (hb : (b || bpMatch bps t) = true) (n : Nat) :
    runBy f bps (n + 1) s = (t, .halted) := by
  simp only [runBy, h, hb, if_true]

theorem runBy_continues {f : State → StepReport} {s t : State} {b : Bool}
    (h : f s = .stepped t b) {bps : List Breakpoint} (hb : (b || bpMatch bps t) = false) (n : Nat) :
    runBy f bps (n + 1) s = runBy f bps n t := by
  simp only [runBy, h, hb, Bool.false_eq_true, if_false]

/-- What every step keeps, a run keeps. -/
theorem runBy_induction {f : State → StepReport} {P : State → Prop}
    (stepped : ∀ s t b, P s → f s = .stepped t b → P t)
    (faulted : ∀ s t, P s → f s = .faulted t → P t)
    (bps : List Breakpoint) (n : Nat) (s : State) (h : P s) : P (runBy f bps n s).1 := by
  induction n generalizing s with
  | zero => exact h
  | succ n ih =>
    cases hf : f s with
    | faulted t => rw [runBy_faulted hf]; exact faulted s t h hf
    | stepped t b =>
      cases hb : b || bpMatch bps t with
      | true => rw [runBy_halts hf hb]; exact stepped s t b h hf
      | false => rw [runBy_continues hf hb]; exact ih t (stepped s t b h hf)

end Sys2Proof.Machine
end

