-- ==== Sys2Proof/Laws/State.lean ====
section
/-! SUPPORT. One lemma for each field of the state and each update of it. -/

namespace Sys2Proof.Machine

@[simp] theorem raiseFault_a (r : Fault) (s : State) : (raiseFault r s).a = s.a := rfl
@[simp] theorem raiseFault_d (r : Fault) (s : State) : (raiseFault r s).d = s.d := rfl
@[simp] theorem raiseFault_pc (r : Fault) (s : State) : (raiseFault r s).pc = s.pc := rfl
@[simp] theorem raiseFault_ram (r : Fault) (s : State) : (raiseFault r s).ram = s.ram := rfl
@[simp] theorem raiseFault_screen (r : Fault) (s : State) : (raiseFault r s).screen = s.screen := rfl
@[simp] theorem raiseFault_kbd (r : Fault) (s : State) : (raiseFault r s).kbd = s.kbd := rfl
@[simp] theorem raiseFault_rom (r : Fault) (s : State) : (raiseFault r s).rom = s.rom := rfl
@[simp] theorem raiseFault_fault (r : Fault) (s : State) : (raiseFault r s).fault = some r := rfl

@[simp] theorem setKeyboard_a (v : Word) (s : State) : (setKeyboard v s).a = s.a := rfl
@[simp] theorem setKeyboard_d (v : Word) (s : State) : (setKeyboard v s).d = s.d := rfl
@[simp] theorem setKeyboard_pc (v : Word) (s : State) : (setKeyboard v s).pc = s.pc := rfl
@[simp] theorem setKeyboard_ram (v : Word) (s : State) : (setKeyboard v s).ram = s.ram := rfl
@[simp] theorem setKeyboard_screen (v : Word) (s : State) : (setKeyboard v s).screen = s.screen := rfl
@[simp] theorem setKeyboard_kbd (v : Word) (s : State) : (setKeyboard v s).kbd = v := rfl
@[simp] theorem setKeyboard_rom (v : Word) (s : State) : (setKeyboard v s).rom = s.rom := rfl
@[simp] theorem setKeyboard_fault (v : Word) (s : State) : (setKeyboard v s).fault = s.fault := rfl

@[simp] theorem loaded_a (ws : List Word) : (State.loaded ws).a = 0 := rfl
@[simp] theorem loaded_d (ws : List Word) : (State.loaded ws).d = 0 := rfl
@[simp] theorem loaded_pc (ws : List Word) : (State.loaded ws).pc = 0 := rfl
@[simp] theorem loaded_ram (ws : List Word) : (State.loaded ws).ram = [] := rfl
@[simp] theorem loaded_screen (ws : List Word) : (State.loaded ws).screen = [] := rfl
@[simp] theorem loaded_kbd (ws : List Word) : (State.loaded ws).kbd = 0 := rfl
@[simp] theorem loaded_rom (ws : List Word) : (State.loaded ws).rom = ws := rfl
@[simp] theorem loaded_fault (ws : List Word) : (State.loaded ws).fault = none := rfl

@[simp] theorem resetCpu_eq_loaded (s : State) : resetCpu s = State.loaded s.rom := rfl

end Sys2Proof.Machine
end

