-- ==== Sys2Proof/Tests/Slice0.lean ====
section
/-! SUPPORT. Tests of the model, their expected results from the spec (its encoding tables and
95_test_vectors.md), and a witness for every obligation that has hypotheses. -/

namespace Sys2Proof.Tests

open Sys2Proof.Machine

/-! ## Helpers -/

/-- The next state of an outcome. -/
def nextOf : Host.Outcome State Fault Refusal → Option State
  | .next t => some t
  | .fault _ => none
  | .refused _ => none

/-- The fault of an outcome. -/
def faultOf : Host.Outcome State Fault Refusal → Option Fault
  | .next _ => none
  | .fault r => some r
  | .refused _ => none

/-- A reset state with the registers given. -/
def regs (a d pc : Word) : State := { State.reset with a := a, d := d, pc := pc }

/-- A state with one instruction word in ROM, at PC = 0. -/
def one (w a d : Word) : State := { regs a d 0 with rom := [w] }

/-- The registers of an outcome, where it is a next state. -/
def regsOf (x : Host.Outcome State Fault Refusal) : Option (Word × Word × Word) :=
  (nextOf x).map fun t => (t.a, t.d, t.pc)

/-- No destination. -/
def dNone : Dest := ⟨false, false, false⟩

/-- The D destination. -/
def dD : Dest := ⟨false, true, false⟩

/-- The M destination. -/
def dM : Dest := ⟨false, false, true⟩

/-! ## Well-formedness (30_encoding.md R73) -/

theorem test_wellFormed_refuses_a_wide_immediate : (Instr.aInstr 32768).wellFormed = false := by
  decide

theorem test_wellFormed_accepts_the_widest_immediate : (Instr.aInstr 32767).wellFormed = true := by
  decide

/-! ## Decoding: a word for every constructor, written out from the spec -/

/-- The instruction each word decodes to, with no destination and no jump. -/
def decodesTo (l : List (Word × (BitVec 2 → Dest → Jump → Instr))) : Bool :=
  l.all fun p => decode p.1 = p.2 0b11 dNone .never && encode (p.2 0b11 dNone .never) = p.1

/-- The field patterns of 30_encoding.md R72 and R77. -/
theorem test_decode_canonical_1 : decodesTo
    [(0b1110101010000000, .compZero),
     (0b1110111111000000, .compOne),
     (0b1110111010000000, .compNegOne),
     (0b1110001100000000, .compD),
     (0b1110110000000000, .compA),
     (0b1111110000000000, .compM),
     (0b1110001101000000, .compNotD),
     (0b1110110001000000, .compNotA),
     (0b1111110001000000, .compNotM),
     (0b1110001111000000, .compNegD),
     (0b1110110011000000, .compNegA),
     (0b1111110011000000, .compNegM),
     (0b1110011111000000, .compDPlus1),
     (0b1110110111000000, .compAPlus1)] = true := by decide

/-- The field patterns of 30_encoding.md R72 and R77. -/
theorem test_decode_canonical_2 : decodesTo
    [(0b1111110111000000, .compMPlus1),
     (0b1110001110000000, .compDMinus1),
     (0b1110110010000000, .compAMinus1),
     (0b1111110010000000, .compMMinus1),
     (0b1110000010000000, .compDPlusA),
     (0b1111000010000000, .compDPlusM),
     (0b1110010011000000, .compDMinusA),
     (0b1111010011000000, .compDMinusM),
     (0b1110000111000000, .compAMinusD),
     (0b1111000111000000, .compMMinusD),
     (0b1110000000000000, .compDAndA),
     (0b1111000000000000, .compDAndM),
     (0b1110010101000000, .compDOrA),
     (0b1111010101000000, .compDOrM)] = true := by decide

/-- The words of 42_c_alu.md R161. -/
theorem test_decode_operand_free_1 : decodesTo
    [(0xFA80, .alu1_101010),
     (0xFFC0, .alu1_111111),
     (0xFE80, .alu1_111010),
     (0xF300, .alu1_001100),
     (0xF340, .alu1_001101),
     (0xF3C0, .alu1_001111),
     (0xF7C0, .alu1_011111),
     (0xF380, .alu1_001110)] = true := by decide

/-- The words of 42_c_alu.md R162, `a` = 0. -/
theorem test_decode_noncanonical_a_1 : decodesTo
    [(0xE040, .alu0_000001),
     (0xE0C0, .alu0_000011),
     (0xE100, .alu0_000100),
     (0xE140, .alu0_000101),
     (0xE180, .alu0_000110),
     (0xE200, .alu0_001000),
     (0xE240, .alu0_001001),
     (0xE280, .alu0_001010),
     (0xE2C0, .alu0_001011),
     (0xE400, .alu0_010000),
     (0xE440, .alu0_010001),
     (0xE480, .alu0_010010),
     (0xE500, .alu0_010100),
     (0xE580, .alu0_010110),
     (0xE5C0, .alu0_010111),
     (0xE600, .alu0_011000),
     (0xE640, .alu0_011001),
     (0xE680, .alu0_011010),
     (0xE6C0, .alu0_011011),
     (0xE700, .alu0_011100),
     (0xE740, .alu0_011101),
     (0xE780, .alu0_011110),
     (0xE800, .alu0_100000)] = true := by decide

/-- The words of 42_c_alu.md R162, `a` = 0. -/
theorem test_decode_noncanonical_a_2 : decodesTo
    [(0xE840, .alu0_100001),
     (0xE880, .alu0_100010),
     (0xE8C0, .alu0_100011),
     (0xE900, .alu0_100100),
     (0xE940, .alu0_100101),
     (0xE980, .alu0_100110),
     (0xE9C0, .alu0_100111),
     (0xEA00, .alu0_101000),
     (0xEA40, .alu0_101001),
     (0xEAC0, .alu0_101011),
     (0xEB00, .alu0_101100),
     (0xEB40, .alu0_101101),
     (0xEB80, .alu0_101110),
     (0xEBC0, .alu0_101111),
     (0xED00, .alu0_110100),
     (0xED40, .alu0_110101),
     (0xED80, .alu0_110110),
     (0xEE00, .alu0_111000),
     (0xEE40, .alu0_111001),
     (0xEEC0, .alu0_111011),
     (0xEF00, .alu0_111100),
     (0xEF40, .alu0_111101),
     (0xEF80, .alu0_111110)] = true := by decide

/-- The words of 42_c_alu.md R162, `a` = 1. -/
theorem test_decode_noncanonical_m_1 : decodesTo
    [(0xF040, .alu1_000001),
     (0xF0C0, .alu1_000011),
     (0xF100, .alu1_000100),
     (0xF140, .alu1_000101),
     (0xF180, .alu1_000110),
     (0xF200, .alu1_001000),
     (0xF240, .alu1_001001),
     (0xF280, .alu1_001010),
     (0xF2C0, .alu1_001011),
     (0xF400, .alu1_010000),
     (0xF440, .alu1_010001),
     (0xF480, .alu1_010010),
     (0xF500, .alu1_010100),
     (0xF580, .alu1_010110),
     (0xF5C0, .alu1_010111),
     (0xF600, .alu1_011000),
     (0xF640, .alu1_011001),
     (0xF680, .alu1_011010),
     (0xF6C0, .alu1_011011),
     (0xF700, .alu1_011100),
     (0xF740, .alu1_011101),
     (0xF780, .alu1_011110),
     (0xF800, .alu1_100000)] = true := by decide

/-- The words of 42_c_alu.md R162, `a` = 1. -/
theorem test_decode_noncanonical_m_2 : decodesTo
    [(0xF840, .alu1_100001),
     (0xF880, .alu1_100010),
     (0xF8C0, .alu1_100011),
     (0xF900, .alu1_100100),
     (0xF940, .alu1_100101),
     (0xF980, .alu1_100110),
     (0xF9C0, .alu1_100111),
     (0xFA00, .alu1_101000),
     (0xFA40, .alu1_101001),
     (0xFAC0, .alu1_101011),
     (0xFB00, .alu1_101100),
     (0xFB40, .alu1_101101),
     (0xFB80, .alu1_101110),
     (0xFBC0, .alu1_101111),
     (0xFD00, .alu1_110100),
     (0xFD40, .alu1_110101),
     (0xFD80, .alu1_110110),
     (0xFE00, .alu1_111000),
     (0xFE40, .alu1_111001),
     (0xFEC0, .alu1_111011),
     (0xFF00, .alu1_111100),
     (0xFF40, .alu1_111101),
     (0xFF80, .alu1_111110)] = true := by decide

/-- 95_test_vectors.md section 2.1. -/
theorem test_decode_listed_words :
    decode 0x7FFF = .aInstr 32767 ∧
    decode 0xFCA8 = .compMMinus1 0b11 ⟨true, false, true⟩ .never ∧
    decode 0x9C10 = .compM 0b00 dD .never ∧
    decode 0xFFFF = .alu1_111111 0b11 ⟨true, true, true⟩ .jmp := by decide

/-- 30_encoding.md R78 and R79: `AMD` is 111, `AM` 101, `JGE` 011, `JLE` 110. -/
theorem test_decode_destinations_and_jumps :
    decode 0b1110001100111011 = .compD 0b11 ⟨true, true, true⟩ .jge ∧
    decode 0b1110001100101110 = .compD 0b11 ⟨true, false, true⟩ .jle := by decide

/-- 30_encoding.md R70: a word is the whole instruction. -/
theorem test_decodeTableWord : decodeTableWord 16 0xEC10 = some (.compA 0b11 dD .never) ∧
    decodeTableWord 16 0x10000 = none := by decide

/-- The first step after reset runs the word placed where it fetches. -/
theorem test_withFetchWord :
    regsOf (step (State.reset.withFetchWord 16 0x0011)) = some (17, 0, 1) ∧
    regsOf (step (State.reset.withFetchWord 16 0xEFD0)) = some (0, 1, 1) := by decide

/-! ## The A-instruction (95_test_vectors.md section 2.2) -/

theorem test_aInstr :
    regsOf (exec (decode 0x0000) (regs 0x1234 9 0)) = some (0, 9, 1) ∧
    regsOf (exec (decode 0x0011) (regs 0x0000 9 7)) = some (0x0011, 9, 8) ∧
    regsOf (exec (decode 0x7FFF) (regs 0xFFFF 9 3)) = some (0x7FFF, 9, 4) := by decide

/-! ## The ALU -/

/-- The D that `D=<comp>` leaves, where the second operand is A or M. -/
def resultOnA (i : BitVec 2 → Dest → Jump → Instr) (x y : Word) : Option Word :=
  (nextOf (exec (i 0b11 dD .never) (regs y x 0))).map (·.d)

/-- The same, where the second operand is M, at address 3. -/
def resultOnM (i : BitVec 2 → Dest → Jump → Instr) (x y : Word) : Option Word :=
  (nextOf (exec (i 0b11 dD .never) { regs 3 x 0 with ram := Memory.write [] 3 y })).map (·.d)

/-- The result of a comp at each of the five operand pairs of 95_test_vectors.md section 2.3. -/
def row (result : Word → Word → Option Word) (expected : List Word) : Bool :=
  [result 0x0005 0x0003, result 0x7FFF 0x0001, result 0x8000 0xFFFF, result 0x0000 0x0000,
   result 0xFFFF 0x8000] = expected.map some

/-- 95_test_vectors.md section 2.3. -/
theorem test_alu_canonical_1 :
    row (resultOnA .compZero) [0x0000, 0x0000, 0x0000, 0x0000, 0x0000] ∧
    row (resultOnA .compOne) [0x0001, 0x0001, 0x0001, 0x0001, 0x0001] ∧
    row (resultOnA .compNegOne) [0xFFFF, 0xFFFF, 0xFFFF, 0xFFFF, 0xFFFF] ∧
    row (resultOnA .compD) [0x0005, 0x7FFF, 0x8000, 0x0000, 0xFFFF] ∧
    row (resultOnA .compA) [0x0003, 0x0001, 0xFFFF, 0x0000, 0x8000] ∧
    row (resultOnM .compM) [0x0003, 0x0001, 0xFFFF, 0x0000, 0x8000] ∧
    row (resultOnA .compNotD) [0xFFFA, 0x8000, 0x7FFF, 0xFFFF, 0x0000] ∧
    row (resultOnA .compNotA) [0xFFFC, 0xFFFE, 0x0000, 0xFFFF, 0x7FFF] ∧
    row (resultOnM .compNotM) [0xFFFC, 0xFFFE, 0x0000, 0xFFFF, 0x7FFF] ∧
    row (resultOnA .compNegD) [0xFFFB, 0x8001, 0x8000, 0x0000, 0x0001] ∧
    row (resultOnA .compNegA) [0xFFFD, 0xFFFF, 0x0001, 0x0000, 0x8000] ∧
    row (resultOnM .compNegM) [0xFFFD, 0xFFFF, 0x0001, 0x0000, 0x8000] ∧
    row (resultOnA .compDPlus1) [0x0006, 0x8000, 0x8001, 0x0001, 0x0000] ∧
    row (resultOnA .compAPlus1) [0x0004, 0x0002, 0x0000, 0x0001, 0x8001] := by decide

/-- 95_test_vectors.md section 2.3. -/
theorem test_alu_canonical_2 :
    row (resultOnM .compMPlus1) [0x0004, 0x0002, 0x0000, 0x0001, 0x8001] ∧
    row (resultOnA .compDMinus1) [0x0004, 0x7FFE, 0x7FFF, 0xFFFF, 0xFFFE] ∧
    row (resultOnA .compAMinus1) [0x0002, 0x0000, 0xFFFE, 0xFFFF, 0x7FFF] ∧
    row (resultOnM .compMMinus1) [0x0002, 0x0000, 0xFFFE, 0xFFFF, 0x7FFF] ∧
    row (resultOnA .compDPlusA) [0x0008, 0x8000, 0x7FFF, 0x0000, 0x7FFF] ∧
    row (resultOnM .compDPlusM) [0x0008, 0x8000, 0x7FFF, 0x0000, 0x7FFF] ∧
    row (resultOnA .compDMinusA) [0x0002, 0x7FFE, 0x8001, 0x0000, 0x7FFF] ∧
    row (resultOnM .compDMinusM) [0x0002, 0x7FFE, 0x8001, 0x0000, 0x7FFF] ∧
    row (resultOnA .compAMinusD) [0xFFFE, 0x8002, 0x7FFF, 0x0000, 0x8001] ∧
    row (resultOnM .compMMinusD) [0xFFFE, 0x8002, 0x7FFF, 0x0000, 0x8001] ∧
    row (resultOnA .compDAndA) [0x0001, 0x0001, 0x8000, 0x0000, 0x8000] ∧
    row (resultOnM .compDAndM) [0x0001, 0x0001, 0x8000, 0x0000, 0x8000] ∧
    row (resultOnA .compDOrA) [0x0007, 0x7FFF, 0xFFFF, 0x0000, 0xFFFF] ∧
    row (resultOnM .compDOrM) [0x0007, 0x7FFF, 0xFFFF, 0x0000, 0xFFFF] := by decide

/-- The last column of 42_c_alu.md R162, at D = 5 and y = 3. -/
theorem test_alu_noncanonical_on_a :
    ([(resultOnA .alu0_000001 5 3, 0xFFFE),
     (resultOnA .alu0_000011 5 3, 0xFFF7),
     (resultOnA .alu0_000100 5 3, 0x0004),
     (resultOnA .alu0_000101 5 3, 0xFFFB),
     (resultOnA .alu0_000110 5 3, 0x0001),
     (resultOnA .alu0_001000 5 3, 0x0000),
     (resultOnA .alu0_001001 5 3, 0xFFFF),
     (resultOnA .alu0_001010 5 3, 0x0005),
     (resultOnA .alu0_001011 5 3, 0xFFFA),
     (resultOnA .alu0_010000 5 3, 0x0002),
     (resultOnA .alu0_010001 5 3, 0xFFFD),
     (resultOnA .alu0_010010 5 3, 0xFFFD),
     (resultOnA .alu0_010100 5 3, 0xFFF8),
     (resultOnA .alu0_010110 5 3, 0xFFF6),
     (resultOnA .alu0_010111 5 3, 0x0009),
     (resultOnA .alu0_011000 5 3, 0x0000),
     (resultOnA .alu0_011001 5 3, 0xFFFF),
     (resultOnA .alu0_011010 5 3, 0xFFFA),
     (resultOnA .alu0_011011 5 3, 0x0005),
     (resultOnA .alu0_011100 5 3, 0xFFFA),
     (resultOnA .alu0_011101 5 3, 0x0005),
     (resultOnA .alu0_011110 5 3, 0xFFF9),
     (resultOnA .alu0_100000 5 3, 0x0000),
     (resultOnA .alu0_100001 5 3, 0xFFFF),
     (resultOnA .alu0_100010 5 3, 0x0003),
     (resultOnA .alu0_100011 5 3, 0xFFFC),
     (resultOnA .alu0_100100 5 3, 0x0000),
     (resultOnA .alu0_100101 5 3, 0xFFFF),
     (resultOnA .alu0_100110 5 3, 0xFFFC),
     (resultOnA .alu0_100111 5 3, 0x0003),
     (resultOnA .alu0_101000 5 3, 0x0000),
     (resultOnA .alu0_101001 5 3, 0xFFFF),
     (resultOnA .alu0_101011 5 3, 0xFFFF),
     (resultOnA .alu0_101100 5 3, 0x0000),
     (resultOnA .alu0_101101 5 3, 0xFFFF),
     (resultOnA .alu0_101110 5 3, 0xFFFF),
     (resultOnA .alu0_101111 5 3, 0x0000),
     (resultOnA .alu0_110100 5 3, 0xFFFC),
     (resultOnA .alu0_110101 5 3, 0x0003),
     (resultOnA .alu0_110110 5 3, 0xFFFB),
     (resultOnA .alu0_111000 5 3, 0x0000),
     (resultOnA .alu0_111001 5 3, 0xFFFF),
     (resultOnA .alu0_111011 5 3, 0x0000),
     (resultOnA .alu0_111100 5 3, 0xFFFF),
     (resultOnA .alu0_111101 5 3, 0x0000),
     (resultOnA .alu0_111110 5 3, 0xFFFE)] : List (Option Word × Word)).all
      (fun p => p.1 = some p.2) := by decide

/-- The last column of 42_c_alu.md R162, at D = 5 and y = 3. -/
theorem test_alu_noncanonical_on_m :
    ([(resultOnM .alu1_000001 5 3, 0xFFFE),
     (resultOnM .alu1_000011 5 3, 0xFFF7),
     (resultOnM .alu1_000100 5 3, 0x0004),
     (resultOnM .alu1_000101 5 3, 0xFFFB),
     (resultOnM .alu1_000110 5 3, 0x0001),
     (resultOnM .alu1_001000 5 3, 0x0000),
     (resultOnM .alu1_001001 5 3, 0xFFFF),
     (resultOnM .alu1_001010 5 3, 0x0005),
     (resultOnM .alu1_001011 5 3, 0xFFFA),
     (resultOnM .alu1_010000 5 3, 0x0002),
     (resultOnM .alu1_010001 5 3, 0xFFFD),
     (resultOnM .alu1_010010 5 3, 0xFFFD),
     (resultOnM .alu1_010100 5 3, 0xFFF8),
     (resultOnM .alu1_010110 5 3, 0xFFF6),
     (resultOnM .alu1_010111 5 3, 0x0009),
     (resultOnM .alu1_011000 5 3, 0x0000),
     (resultOnM .alu1_011001 5 3, 0xFFFF),
     (resultOnM .alu1_011010 5 3, 0xFFFA),
     (resultOnM .alu1_011011 5 3, 0x0005),
     (resultOnM .alu1_011100 5 3, 0xFFFA),
     (resultOnM .alu1_011101 5 3, 0x0005),
     (resultOnM .alu1_011110 5 3, 0xFFF9),
     (resultOnM .alu1_100000 5 3, 0x0000),
     (resultOnM .alu1_100001 5 3, 0xFFFF),
     (resultOnM .alu1_100010 5 3, 0x0003),
     (resultOnM .alu1_100011 5 3, 0xFFFC),
     (resultOnM .alu1_100100 5 3, 0x0000),
     (resultOnM .alu1_100101 5 3, 0xFFFF),
     (resultOnM .alu1_100110 5 3, 0xFFFC),
     (resultOnM .alu1_100111 5 3, 0x0003),
     (resultOnM .alu1_101000 5 3, 0x0000),
     (resultOnM .alu1_101001 5 3, 0xFFFF),
     (resultOnM .alu1_101011 5 3, 0xFFFF),
     (resultOnM .alu1_101100 5 3, 0x0000),
     (resultOnM .alu1_101101 5 3, 0xFFFF),
     (resultOnM .alu1_101110 5 3, 0xFFFF),
     (resultOnM .alu1_101111 5 3, 0x0000),
     (resultOnM .alu1_110100 5 3, 0xFFFC),
     (resultOnM .alu1_110101 5 3, 0x0003),
     (resultOnM .alu1_110110 5 3, 0xFFFB),
     (resultOnM .alu1_111000 5 3, 0x0000),
     (resultOnM .alu1_111001 5 3, 0xFFFF),
     (resultOnM .alu1_111011 5 3, 0x0000),
     (resultOnM .alu1_111100 5 3, 0xFFFF),
     (resultOnM .alu1_111101 5 3, 0x0000),
     (resultOnM .alu1_111110 5 3, 0xFFFE)] : List (Option Word × Word)).all
      (fun p => p.1 = some p.2) := by decide

/-- 42_c_alu.md R161: the `a` = 1 spelling of `0` ignores the M it reads (95_test_vectors.md section
2.4). -/
theorem test_alu_operand_free : resultOnM .alu1_101010 5 7 = some 0 ∧
    resultOnM .alu1_011111 0x7FFF 7 = some 0x8000 := by decide

/-! ## Jumps (95_test_vectors.md section 2.5) -/

/-- The PC that `D;<jump>` leaves at PC = 10 with A = 100, at each D of the table. -/
def jumpRow (w : Word) (expected : List Word) : Bool :=
  ([0xFFFF, 0x0000, 0x0001, 0x8000, 0x7FFF] : List Word).map
    (fun x => (nextOf (exec (decode w) (regs 100 x 10))).map (·.pc)) = expected.map some

theorem test_jumps :
    jumpRow 0xE300 [11, 11, 11, 11, 11] ∧
    jumpRow 0xE301 [11, 11, 100, 11, 100] ∧
    jumpRow 0xE302 [11, 100, 11, 11, 11] ∧
    jumpRow 0xE303 [11, 100, 100, 11, 100] ∧
    jumpRow 0xE304 [100, 11, 11, 100, 11] ∧
    jumpRow 0xE305 [100, 11, 100, 100, 100] ∧
    jumpRow 0xE306 [100, 100, 11, 100, 11] ∧
    jumpRow 0xE307 [100, 100, 100, 100, 100] := by decide

/-- PC is a 16-bit word (10_state.md R23). -/
theorem test_pc_wraps : regsOf (exec (decode 0xEA80) (regs 0 0 0xFFFF)) = some (0, 0, 0) := by decide

/-! ## Destinations and the old A (95_test_vectors.md section 2.6) -/

/-- The start state of the section, with the instruction in ROM. -/
def destStart (w : Word) : State := { one w 3 5 with ram := [(3, 7)] }

/-- A, D, RAM[3], RAM[8] and PC. -/
def destRow (s : State) : List (Option Word) :=
  [some s.a, some s.d, peek s 3, peek s 8, some s.pc]

/-- The row of a word, run by the step. -/
def destIs (w : Word) (expected : List Word) : Bool :=
  (nextOf (step (destStart w))).map destRow = some (expected.map some)

theorem test_destinations :
    destIs 0xE308 [3, 5, 5, 0, 1] ∧
    destIs 0xFDD8 [3, 8, 8, 0, 1] ∧
    destIs 0xFDE8 [8, 5, 8, 0, 1] ∧
    destIs 0xF0B8 [12, 12, 12, 0, 1] ∧
    destIs 0xE0A0 [8, 5, 7, 0, 1] ∧
    destIs 0xE4F0 [2, 2, 7, 0, 1] ∧
    destIs 0xEA80 [3, 5, 7, 0, 1] ∧
    destIs 0xFC17 [3, 7, 7, 0, 3] ∧
    destIs 0xEDE7 [4, 5, 7, 0, 3] ∧
    destIs 0xFDEF [8, 5, 8, 0, 3] := by decide

/-- The state a report leaves, where it is not faulted. -/
def reportedState : StepReport → Option State
  | .stepped s _ => some s
  | .faulted _ => none

/-- The parameters of the hardware with JUMP_TARGET_SOURCE = POST_A. -/
def postA : Params := { params with jumpTargetSource := .postA }

theorem test_jump_target_post_a :
    (reportedState (cycle postA (destStart 0xEDE7))).map destRow
      = some [some 4, some 5, some 7, some 0, some 4] ∧
    (reportedState (cycle postA (destStart 0xFDEF))).map destRow
      = some [some 8, some 5, some 8, some 0, some 8] ∧
    (reportedState (cycle postA (destStart 0xFC17))).map destRow
      = some [some 3, some 7, some 7, some 0, some 3] := by decide

/-! ## The address decoder and faults (95_test_vectors.md section 2.7) -/

/-- The start state of the section. -/
def memStart (w a d : Word) : State :=
  { one w a d with ram := [(0, 0x1111)], screen := [(0, 0x2222)], kbd := 0x0041 }

/-- The D that `D=M` leaves at an A. -/
def loadAt (a : Word) : Option Word := (nextOf (step (memStart 0xFC10 a 0))).map (·.d)

/-- The word at A that `M=D` leaves, with D = 0x00FF. -/
def storeAt (a : Word) : Option Word :=
  (nextOf (step (memStart 0xE308 a 0x00FF))).bind fun t => peek t a.toNat

theorem test_loads : loadAt 0 = some 0x1111 ∧ loadAt 16383 = some 0 ∧ loadAt 16384 = some 0x2222 ∧
    loadAt 24575 = some 0 ∧ loadAt 24576 = some 0x0041 := by decide

theorem test_stores : storeAt 0 = some 0x00FF ∧ storeAt 16383 = some 0x00FF ∧
    storeAt 16384 = some 0x00FF ∧ storeAt 24575 = some 0x00FF ∧ storeAt 24576 = some 0x0041 := by
  decide

theorem test_read_faults :
    ([24577, 32767, 32768, 65535] : List Word).all (fun a =>
      faultOf (step (memStart 0xFC10 a 0)) = some (.readOutOfRange a.toNat) &&
      cpuStep (memStart 0xFC10 a 0)
        = .faulted { memStart 0xFC10 a 0 with fault := some (.readOutOfRange a.toNat) }) := by decide

theorem test_write_faults :
    ([24577, 32767, 32768, 65535] : List Word).all (fun a =>
      faultOf (step (memStart 0xE308 a 0x00FF)) = some (.writeOutOfRange a.toNat) &&
      cpuStep (memStart 0xE308 a 0x00FF)
        = .faulted { memStart 0xE308 a 0x00FF with
            fault := some (.writeOutOfRange a.toNat) }) := by decide

/-- The fault vectors after the table. -/
theorem test_more_faults :
    regsOf (step (one 0xE3A0 0 0)) = some (0xFFFF, 0, 1) ∧
    faultOf (step { regs 0xFFFF 0 1 with rom := [0xE3A0] }) = some (.fetchOutOfRange 1) ∧
    regsOf (step { regs 0xFFFF 0 1 with rom := [0xEEA0, 0xEFD0] }) = some (0xFFFF, 1, 2) ∧
    faultOf (step { regs 0xFFFF 0 1 with rom := [0xEEA0, 0xFC10] }) = some (.readOutOfRange 65535) ∧
    faultOf (step (one 0xFA90 0x8000 0)) = some (.readOutOfRange 32768) ∧
    faultOf (step (one 0xFDD8 24577 0)) = some (.readOutOfRange 24577) := by decide

/-- A faulted state takes no step (60_exceptions.md R211). -/
theorem test_faulted_state : cpuStep { one 0xEFD0 0 0 with fault := some (.writeOutOfRange 24577) }
    = .faulted { one 0xEFD0 0 0 with fault := some (.writeOutOfRange 24577) } := by decide

/-! ## The halt report (95_test_vectors.md section 2.8) -/

/-- PC and the report of a step. -/
def haltOf : StepReport → Option (Word × Bool)
  | .stepped s h => some (s.pc, h)
  | .faulted _ => none

theorem test_halt_reports :
    haltOf (cpuStep { regs 1 0 1 with rom := [0, 0xEA87] }) = some (1, true) ∧
    haltOf (cpuStep { regs 0 0 1 with rom := [0, 0xEA87] }) = some (0, false) ∧
    haltOf (cycle { params with haltIdiom := true } { regs 0 0 1 with rom := [0, 0xEA87] })
      = some (0, true) ∧
    haltOf (cpuStep (one 0xE302 0 0)) = some (0, false) ∧
    cpuStep (one 0xE7D7 0 0) = .stepped { one 0xE7D7 0 1 with pc := 0 } true := by decide

/-! ## The session -/

/-- A breakpoint is tested after a step only, never before the first (60_exceptions.md R226). -/
theorem test_breakpoint_after_the_step :
    (run [⟨.d, 1⟩] 1 (one 0xEFD0 0 0)).2 = .halted ∧
    (run [⟨.pc, 0⟩] 1 (one 0xEFD0 0 0)).2 = .notHalted := by decide

/-- 70_reset_and_hazards.md R250: ROM stays, everything else is 0. -/
theorem test_reset : resetCpu { memStart 0xFC10 5 6 with fault := some (.fetchOutOfRange 9) }
    = { State.reset with rom := [0xFC10] } := by decide

/-- 70_reset_and_hazards.md R253: an odd number of bytes is a malformed length. -/
theorem test_load_formats :
    (LoadRequest.rawBinary .bigEndianBytes [0xEC, 0x10]).program = .ok [0xEC10] ∧
    (LoadRequest.rawBinary .littleEndianBytes [0x10, 0xEC]).program = .ok [0xEC10] ∧
    (LoadRequest.rawBinary .bigEndianBytes [0xEC]).program = .error .malformedLength ∧
    (LoadRequest.rawBinary .bigEndianBytes []).program = .error .emptyProgram := ⟨rfl, rfl, rfl, rfl⟩

/-- 60_exceptions.md R225: the cell of a breakpoint is mapped. -/
theorem test_breakpoint_cells : (⟨.mem 24576, 0⟩ : Breakpoint).acceptable = true ∧
    (⟨.mem 24577, 0⟩ : Breakpoint).acceptable = false := by decide

/-- 30_encoding.md R88, and the assembly text of 95_test_vectors.md. -/
theorem test_listing : ([0x0011, 0xFCA8, 0xE301, 0xE050] : List Word).map listingLine
    = ["@17", "AM=M-1", "D;JGT", "D=ALU[0,000001]"] := by decide

/-- 20_memory.md R46: pixel (r, c) is bit c % 16 of the word at 16384 + 32 r + c / 16. -/
theorem test_pixel : pixel { State.reset with screen := [(33, 0x8000)] } 1 31 = some true ∧
    pixel { State.reset with screen := [(33, 0x8000)] } 1 30 = some false ∧
    pixel State.reset 256 0 = none := by decide

/-- The end of program P7 of 95_test_vectors.md: `@R0`, `M=D`, `(END)`, `@END`, `0;JMP`. -/
theorem test_source_lines :
    emitted [.instruction (.aInstr 0), .instruction (.compD 0b11 dM .never), .label "END",
      .instruction (.aInstr 4), .instruction (.compZero 0b11 dNone .jmp)]
      = [0x0000, 0xE308, 0x0004, 0xEA87] := by decide

/-! ## Witnesses: states and operands that meet the hypotheses of the obligations

Each is named after its obligation. The obligations without hypotheses have none. -/

theorem witness_EncodeInvertsDecodeOnEveryWord :
    (decode 0xE301).view = .c 0b11 .a ⟨false, false, true, true, false, false⟩ dNone .jgt ∧
    decode 0xE301 = decode (encode (decode 0xE301)) := by decide

theorem witness_DecodeInvertsEncodeOnWellFormed : (Instr.aInstr 0).wellFormed = true ∧
    (Instr.aInstr 32767).wellFormed = true ∧
    (Instr.alu1_111111 0b00 ⟨true, true, true⟩ .jmp).wellFormed = true := by decide

theorem witness_DecodeExposesEveryField : (0x7FFF : Word).getLsbD 15 = false ∧
    (0x8000 : Word).getLsbD 15 = true ∧
    ((0x8000 : Word).getLsbD 12 = false ∧ (0x9000 : Word).getLsbD 12 = true) := by decide

theorem witness_UnusedBitsNeverAffectExecution : (0x9C10 : Word).getLsbD 15 = true ∧
    (0xFC10 : Word).getLsbD 15 = true ∧
    (0x9C10 : Word).extractLsb' 0 13 = (0xFC10 : Word).extractLsb' 0 13 := by decide

theorem witness_StepFetchesAndExecutesTheWordAtPc : (one 0xEFD0 0 0).fault = none ∧
    (one 0xEFD0 0 0).rom[(one 0xEFD0 0 0).pc.toNat]? = some 0xEFD0 ∧
    (Instr.compOne 0b11 dD .never).wellFormed = true ∧
    encode (.compOne 0b11 dD .never) = 0xEFD0 := by decide

/-- With an empty ROM, and at the first address past a program of one word. -/
theorem witness_FetchPastTheProgramFaults :
    State.reset.fault = none ∧ State.reset.rom.length ≤ State.reset.pc.toNat ∧
    ({ regs 0 0 1 with rom := [0] } : State).fault = none ∧
    ({ regs 0 0 1 with rom := [0] } : State).rom.length ≤ (1 : Word).toNat := by decide

theorem witness_FaultedStateTakesNoStep :
    ({ State.reset with fault := some (.readOutOfRange 24577) } : State).fault
      = some (.readOutOfRange 24577) := rfl

theorem witness_AInstructionLoadsItsImmediate :
    (0 : Word).toNat < 32768 ∧ (32767 : Word).toNat < 32768 ∧
    regsOf (exec (.aInstr 32767) (regs 0 9 3)) = some (32767, 9, 4) := by decide

/-- The three clauses of `CompRule`, for a comp with `a` = 0. Registers only need no mapped address;
the last mapped address is 24576. -/
def clausesOnA (i : BitVec 2 → Dest → Jump → Instr) : Bool :=
  (nextOf (exec (i 0b11 dD .jmp) (regs 0xFFFF 1 0))).isSome &&
  (nextOf (exec (i 0b11 dM .never) (regs 24576 1 0))).isSome &&
  faultOf (exec (i 0b11 dM .never) (regs 24577 1 0)) = some (.writeOutOfRange 24577)

/-- The three clauses of `CompRule`, for a comp with `a` = 1. -/
def clausesOnM (i : BitVec 2 → Dest → Jump → Instr) : Bool :=
  (nextOf (exec (i 0b11 dD .jmp) (regs 24576 1 0))).isSome &&
  (nextOf (exec (i 0b11 dM .never) (regs 16383 1 0))).isSome &&
  faultOf (exec (i 0b11 dM .never) (regs 24577 1 0)) = some (.readOutOfRange 24577)

/-- The hypotheses of every `CompRule`: a well-formed state with A mapped, and one with A unmapped. -/
theorem witness_CompRule : (regs 24576 1 0).WF ∧ Mapped (regs 24576 1 0).a.toNat ∧
    (regs 24577 1 0).WF ∧ ¬ Mapped (regs 24577 1 0).a.toNat ∧ (regs 0xFFFF 1 0).WF ∧
    ¬ Mapped (regs 0xFFFF 1 0).a.toNat := by decide

theorem witness_ConstantCompsPutAConstant :
    clausesOnA .compZero ∧ clausesOnA .compOne ∧ clausesOnA .compNegOne := by decide

theorem witness_DataRegisterCompsReadOnlyD :
    clausesOnA .compD ∧ clausesOnA .compNotD ∧ clausesOnA .compNegD ∧ clausesOnA .compDPlus1 ∧
    clausesOnA .compDMinus1 := by decide

theorem witness_AddressRegisterCompsReadA :
    clausesOnA .compA ∧ clausesOnA .compNotA ∧ clausesOnA .compNegA ∧ clausesOnA .compAPlus1 ∧
    clausesOnA .compAMinus1 := by decide

theorem witness_MemoryCompsReadTheWordAtA :
    clausesOnM .compM ∧ clausesOnM .compNotM ∧ clausesOnM .compNegM ∧ clausesOnM .compMPlus1 ∧
    clausesOnM .compMMinus1 := by decide

theorem witness_BinaryCompsOfDAndA :
    clausesOnA .compDPlusA ∧ clausesOnA .compDMinusA ∧ clausesOnA .compAMinusD ∧
    clausesOnA .compDAndA ∧ clausesOnA .compDOrA := by decide

theorem witness_BinaryCompsOfDAndM :
    clausesOnM .compDPlusM ∧ clausesOnM .compDMinusM ∧ clausesOnM .compMMinusD ∧
    clausesOnM .compDAndM ∧ clausesOnM .compDOrM := by decide

theorem witness_OperandFreeSpellingsStillReadM :
    clausesOnM .alu1_101010 ∧ clausesOnM .alu1_111111 ∧ clausesOnM .alu1_111010 ∧
    clausesOnM .alu1_001100 ∧ clausesOnM .alu1_001101 ∧ clausesOnM .alu1_001111 ∧
    clausesOnM .alu1_011111 ∧ clausesOnM .alu1_001110 := by decide

/-- All 46, each with its three clauses. -/
theorem witness_NoncanonicalCompsOnA :
    ([.alu0_000001, .alu0_000011, .alu0_000100, .alu0_000101, .alu0_000110, .alu0_001000,
     .alu0_001001, .alu0_001010, .alu0_001011, .alu0_010000, .alu0_010001, .alu0_010010,
     .alu0_010100, .alu0_010110, .alu0_010111, .alu0_011000, .alu0_011001, .alu0_011010,
     .alu0_011011, .alu0_011100, .alu0_011101, .alu0_011110, .alu0_100000, .alu0_100001,
     .alu0_100010, .alu0_100011, .alu0_100100, .alu0_100101, .alu0_100110, .alu0_100111,
     .alu0_101000, .alu0_101001, .alu0_101011, .alu0_101100, .alu0_101101, .alu0_101110,
     .alu0_101111, .alu0_110100, .alu0_110101, .alu0_110110, .alu0_111000, .alu0_111001,
     .alu0_111011, .alu0_111100, .alu0_111101, .alu0_111110] :
      List (BitVec 2 → Dest → Jump → Instr)).all clausesOnA := by decide

theorem witness_NoncanonicalCompsOnM :
    ([.alu1_000001, .alu1_000011, .alu1_000100, .alu1_000101, .alu1_000110, .alu1_001000,
     .alu1_001001, .alu1_001010, .alu1_001011, .alu1_010000, .alu1_010001, .alu1_010010,
     .alu1_010100, .alu1_010110, .alu1_010111, .alu1_011000, .alu1_011001, .alu1_011010,
     .alu1_011011, .alu1_011100, .alu1_011101, .alu1_011110, .alu1_100000, .alu1_100001,
     .alu1_100010, .alu1_100011, .alu1_100100, .alu1_100101, .alu1_100110, .alu1_100111,
     .alu1_101000, .alu1_101001, .alu1_101011, .alu1_101100, .alu1_101101, .alu1_101110,
     .alu1_101111, .alu1_110100, .alu1_110101, .alu1_110110, .alu1_111000, .alu1_111001,
     .alu1_111011, .alu1_111100, .alu1_111101, .alu1_111110] :
      List (BitVec 2 → Dest → Jump → Instr)).all clausesOnM := by decide

theorem witness_ArithmeticWrapsSilently : peek (regs 24576 0x7FFF 0) 24576 = some 0 ∧
    resultOnA .compDPlus1 0x7FFF 0 = some 0x8000 ∧ resultOnM .compMMinus1 0 0x8000 = some 0x7FFF := by
  decide

theorem witness_JumpConditionsReadTheResultAsSigned :
    (decode 0xE304).view = .c 0b11 .a ⟨false, false, true, true, false, false⟩ dNone .jlt ∧
    take .jlt 0x8000 = true ∧ take .jlt 0 = false := by decide

/-- One step to PC + 1 and one to the old A. -/
theorem witness_ControlGoesOnOrToTheOldA :
    exec (decode 0xE304) (regs 100 0 10) = .next (regs 100 0 11) ∧
    exec (decode 0xE304) (regs 100 0x8000 10) = .next (regs 100 0x8000 100) := ⟨rfl, rfl⟩

theorem witness_JumpTargetSourceMattersOnlyWhenAIsWritten :
    cycle { params with jumpTargetSource := .preA } (destStart 0xEDE7)
      ≠ cycle { params with jumpTargetSource := .postA } (destStart 0xEDE7) := by decide

/-- Each row at both its ends. -/
theorem witness_AddressDecoderRegions : region 0 = .ram ∧ region 16383 = .ram ∧
    region 16384 = .screen ∧ region 24575 = .screen ∧ region 24576 = .kbd ∧
    region 24577 = .unmapped ∧ region 32767 = .unmapped ∧ region 32768 = .outOfRange ∧
    region 65535 = .outOfRange := by decide

theorem witness_MemReadAnswersByRegion :
    memRead 16383 (memStart 0 0 0) = .ok 0 ∧ memRead 16384 (memStart 0 0 0) = .ok 0x2222 ∧
    memRead 24576 (memStart 0 0 0) = .ok 0x0041 ∧
    memRead 24577 (memStart 0 0 0) = .error (.readOutOfRange 24577) ∧
    memRead 32768 (memStart 0 0 0) = .error (.readOutOfRange 32768) := ⟨rfl, rfl, rfl, rfl, rfl⟩

theorem witness_MemWriteStoresOneWord : (memStart 0 0 0).WF ∧
    (region 16383 = .ram ∧ region 24575 = .screen ∧ region 24576 = .kbd ∧
      region 24577 = .unmapped ∧ region 32768 = .outOfRange) := by decide

theorem witness_RamReadsTheLastValueWritten :
    (∀ p ∈ ([(16383, 1), (24576, 2), (16383, 3)] : List (Nat × Word)), Mapped p.1) ∧ 16383 < 16384 ∧
    (([(16383, 1), (24576, 2), (16383, 3)] : List (Nat × Word)).reverse.find? fun p => p.1 = 16383)
      = some (16383, 3) := by decide

/-- Both ends of SCREEN, one written last and one never. -/
theorem witness_ScreenReadsTheLastValueWritten :
    (∀ p ∈ ([(16384, 1), (16383, 2), (16384, 3)] : List (Nat × Word)), Mapped p.1) ∧
    16384 ≤ 24575 ∧
    (([(16384, 1), (16383, 2), (16384, 3)] : List (Nat × Word)).reverse.find? fun p => p.1 = 16384)
      = some (16384, 3) ∧
    (([(16384, 1), (16383, 2), (16384, 3)] : List (Nat × Word)).reverse.find? fun p => p.1 = 24575)
      = none := by decide

theorem witness_CanonicalMemoriesAreEqualWhenTheyReadEqual :
    Memory.wf 5 [(0, 1), (4, 7)] ∧ Memory.wf 5 (Memory.write [(0, 1)] 4 7) ∧
    Memory.write [(0, 1)] 4 7 = [(0, 1), (4, 7)] := by decide

theorem witness_EveryStepKeepsTheStateWellFormed : (destStart 0xE308).WF ∧
    nextOf (step (destStart 0xE308)) = some { destStart 0xE308 with ram := [(3, 5)], pc := 1 } := by
  decide

theorem witness_ResetStateIsWellFormed : checkLength [0xEA87] = .ok [0xEA87] ∧
    Launch [0xEA87] (State.loaded [0xEA87]) := ⟨rfl, rfl, rfl⟩

theorem witness_HostMovesKeepTheSessionWellFormed :
    (⟨memStart 0xFC10 0 0, [⟨.mem 24576, 0⟩], .running⟩ : Session).WF := by decide

theorem witness_OnlyALoadWritesRom :
    exec (decode 0xEFD0) (one 0xEFD0 0 0) = .next { one 0xEFD0 0 1 with pc := 1 } ∧
    (∀ r, HostMove.run 1 ≠ .load r) ∧
    (LoadRequest.assembly (some [0xEA87])).program = .ok [0xEA87] :=
  ⟨rfl, fun _ h => (by cases h), rfl⟩

theorem witness_OnlyTheHostWritesTheKeyboardWord :
    step (memStart 0xE308 24576 1) = .next { memStart 0xE308 24576 1 with pc := 1 } ∧
    (∀ v, HostMove.step ≠ .setKeyboard v) ∧ HostMove.step ≠ .reset ∧
    ∀ r, HostMove.step ≠ .load r :=
  ⟨rfl, fun _ h => (by cases h), (by decide), fun _ h => (by cases h)⟩

/-- A fetch, a read and a write that fault, and a state already faulted. -/
theorem witness_FaultingStepCommitsNothing :
    cpuStep State.reset = .faulted { State.reset with fault := some (.fetchOutOfRange 0) } ∧
    cpuStep (one 0xFC10 24577 0)
      = .faulted { one 0xFC10 24577 0 with fault := some (.readOutOfRange 24577) } ∧
    cpuStep (one 0xE308 32768 0)
      = .faulted { one 0xE308 32768 0 with fault := some (.writeOutOfRange 32768) } ∧
    cpuStep { State.reset with fault := some (.fetchOutOfRange 9) }
      = .faulted { State.reset with fault := some (.fetchOutOfRange 9) } := by decide

/-- Both faults of the right side, and the last address without one. -/
theorem witness_FaultsAreExactlyTheListedOnes :
    exec (decode 0xFDD8) (regs 24577 0 0) = .fault (.readOutOfRange 24577) ∧
    exec (decode 0xE308) (regs 24577 0 0) = .fault (.writeOutOfRange 24577) ∧
    ¬ Mapped (24577 : Word).toNat ∧
    exec (decode 0xE308) (regs 24576 0 0) = .next (regs 24576 0 1) :=
  ⟨rfl, rfl, (by decide), rfl⟩

/-- Two states with the same registers and different memories. -/
theorem witness_RegisterInstructionsIgnoreTheDataMemory :
    (∀ u src k dest jump, (Instr.compDPlusA 0b11 dD .never).view = .c u src k dest jump →
      src = .a ∧ dest.m = false) ∧
    ({ memStart 0 3 5 with kbd := 9 } : State).a = (destStart 0).a ∧
    ({ memStart 0 3 5 with kbd := 9 } : State).d = (destStart 0).d ∧
    ({ memStart 0 3 5 with kbd := 9 } : State).pc = (destStart 0).pc :=
  ⟨fun _ _ _ _ _ h => (by cases h; exact ⟨rfl, rfl⟩), rfl, rfl, rfl⟩

/-- A load that succeeds, one that fails on its bytes, and one that fails on its length. -/
theorem witness_LoadReplacesTheProgramOrChangesNothing :
    (LoadRequest.rawBinary .bigEndianBytes [0xEA, 0x87]).words = .ok [0xEA87] ∧
    (LoadRequest.rawBinary .bigEndianBytes [0xEA]).words = .error .malformedLength ∧
    (LoadRequest.vm (some [])).words = .ok [] := ⟨rfl, rfl, rfl⟩

/-- A run that ends on a report, and one that ends on a breakpoint. -/
theorem witness_RunHaltsOnlyAfterAReportOrAMatch :
    run [] 2 (one 0xEA87 0 0) = (one 0xEA87 0 0, .halted) ∧
    run [⟨.d, 1⟩] 2 (one 0xEFD0 0 0) = ({ one 0xEFD0 0 1 with pc := 1 }, .halted) := by decide

theorem witness_HaltedIsReportedOnASelfJumpOnly :
    cpuStep (one 0xEA87 0 0) = .stepped (one 0xEA87 0 0) true ∧
    cpuStep (one 0xE302 0 0) = .stepped (one 0xE302 0 0) false := by decide

theorem witness_HaltIdiomChangesOnlyTheReport :
    haltOf (cycle { params with haltIdiom := false } { regs 0 0 1 with rom := [0, 0xEA87] })
      = some (0, false) ∧
    cycle { params with haltIdiom := false } State.reset
      = .faulted { State.reset with fault := some (.fetchOutOfRange 0) } := by decide

theorem witness_SelfJumpKeepsExecuting : (one 0xEA87 0 0).fault = none ∧
    (one 0xEA87 0 0).a = (one 0xEA87 0 0).pc ∧
    (one 0xEA87 0 0).rom[(one 0xEA87 0 0).pc.toNat]? = some (encode (.compZero 0b11 dNone .jmp)) := by
  decide

/-- A running session whose one step halts, faults, or does neither. -/
theorem witness_StepperTransitions :
    (⟨one 0xEA87 0 0, [], .running⟩ : Session).runResult 1 = .halted ∧
    (⟨State.reset, [], .running⟩ : Session).runResult 1 = .faulted ∧
    (⟨one 0xEFD0 0 0, [], .running⟩ : Session).runResult 1 = .notHalted ∧
    (LoadRequest.vm (some [0xEA87])).program = .ok [0xEA87] :=
  ⟨(by decide), (by decide), (by decide), rfl⟩

/-- Lines whose instructions are well-formed, and the jump of the halt idiom with no halt reported. -/
theorem witness_NoPseudoInstructionAndNoHaltInstruction :
    (∀ l ∈ ([.label "END", .instruction (.aInstr 32767)] : List SourceLine),
      ∀ i, l.instr? = some i → i.wellFormed = true) ∧
    (Instr.compZero 0b11 dNone .jmp).wellFormed = true ∧ (one 0xEA87 1 0).WF ∧
    cpuStep (one 0xEA87 1 0) = .stepped { one 0xEA87 1 0 with pc := 1 } false :=
  ⟨by simp [SourceLine.instr?, Instr.wellFormed], by decide, by decide, by decide⟩

theorem witness_BreakpointsOnUnmappedCellsAreRefused :
    24576 < 24577 ∧ 24576 ≤ 24576 ∧
    Session.initial.move (.addBreakpoint ⟨.mem 24577, 1⟩) = Session.initial ∧
    (Session.initial.move (.addBreakpoint ⟨.mem 24576, 1⟩)).breakpoints = [⟨.mem 24576, 1⟩] := by
  decide

end Sys2Proof.Tests
end

section
/-! PROOFS of the family 30_encoding.md. Both clauses of the round trip go through the decoded view:
a word and its view determine each other on the views whose immediate fits in 15 bits, an
instruction and its view determine each other always, and well-formedness is a property of the
view. -/

namespace Sys2Proof

/-- The views that `wordOfView` keeps whole: the immediate fits in the 15 bits of R74. -/
def View.Encodable : View → Prop
  | .a v => v.toNat < 32768
  | .c .. => True

namespace Laws

/-- An instruction is well-formed exactly when its decoded view fits in a word (30_encoding.md
R73). -/
theorem wellFormed_iff_view_encodable (i : Instr) : i.wellFormed = true ↔ i.view.Encodable := by
  cases i
  case aInstr v => exact decide_eq_true_iff
  all_goals exact ⟨fun _ => trivial, fun _ => rfl⟩

/-- The opcode map loses nothing of a view (R77, R80); `ofView_view` is the other direction. -/
@[simp] theorem view_ofView (v : View) : (Instr.ofView v).view = v := by
  cases v with
  | a v => rfl
  | c u src k d j =>
    obtain ⟨zx, nx, zy, ny, f, no⟩ := k
    cases src <;> cases zx <;> cases nx <;> cases zy <;> cases ny <;> cases f <;> cases no <;> rfl

/-! ### The view read back from its word (R74 after R76) -/

theorem wordOfView_c_extract_u (u : BitVec 2) (src : Operand) (k : Ctl) (d : Dest) (j : Jump) :
    (wordOfView (.c u src k d j)).extractLsb' 13 2 = u := by
  refine BitVec.eq_of_getLsbD_eq fun n hn => ?_
  simp only [BitVec.getLsbD_extractLsb', hn, decide_true, Bool.true_and]
  obtain rfl | rfl : n = 0 ∨ n = 1 := by omega
  · exact wordOfView_c_bit13 u src k d j
  · exact wordOfView_c_bit14 u src k d j

theorem viewOfWord_wordOfView_c (u : BitVec 2) (src : Operand) (k : Ctl) (d : Dest) (j : Jump) :
    viewOfWord (wordOfView (.c u src k d j)) = .c u src k d j := by
  unfold viewOfWord
  simp only [wordOfView_c_extract_u, wordOfView_c_bit15, wordOfView_c_bit12, wordOfView_c_bit11,
    wordOfView_c_bit10, wordOfView_c_bit9, wordOfView_c_bit8, wordOfView_c_bit7, wordOfView_c_bit6,
    wordOfView_c_bit5, wordOfView_c_bit4, wordOfView_c_bit3, wordOfView_c_bit2, wordOfView_c_bit1,
    wordOfView_c_bit0, Operand.ofBit_bit, Jump.ofBits_bits, if_true]

theorem wordOfView_a_immediate {v : Word} (h : v.toNat < 32768) :
    ((wordOfView (.a v)).extractLsb' 0 15).setWidth 16 = v := by
  refine BitVec.eq_of_getLsbD_eq fun n hn => ?_
  simp only [BitVec.getLsbD_setWidth, BitVec.getLsbD_extractLsb', Nat.zero_add, hn, decide_true,
    Bool.true_and]
  by_cases hn15 : n < 15
  · simp only [hn15, decide_true, Bool.true_and, wordOfView_a_bits]
  · obtain rfl : n = 15 := by omega
    have bit15_clear : v.getLsbD 15 = false := Nat.testBit_lt_two_pow h
    rw [bit15_clear]
    rfl

theorem viewOfWord_wordOfView_a {v : Word} (h : v.toNat < 32768) :
    viewOfWord (wordOfView (.a v)) = .a v := by
  simp only [viewOfWord, wordOfView_a_bit15, wordOfView_a_immediate h, Bool.false_eq_true, if_false]

/-- Reading the fields of a written view gives the view back, where the immediate fits. -/
theorem viewOfWord_wordOfView {v : View} (h : v.Encodable) : viewOfWord (wordOfView v) = v := by
  cases v with
  | a v => exact viewOfWord_wordOfView_a h
  | c u src k d j => exact viewOfWord_wordOfView_c u src k d j

/-- The immediate of a word is its low 15 bits, so every word's view fits. -/
theorem viewOfWord_encodable (w : Word) : (viewOfWord w).Encodable := by
  unfold viewOfWord
  split
  · trivial
  · show ((w.extractLsb' 0 15).setWidth 16).toNat < 32768
    rw [BitVec.toNat_setWidth_of_le (by decide)]
    exact (w.extractLsb' 0 15).isLt

/-! ### Decoding and encoding of instructions -/

@[simp] theorem view_decode (w : Word) : (decode w).view = viewOfWord w := view_ofView _

theorem decode_encode {i : Instr} (h : i.wellFormed = true) : decode (encode i) = i := by
  have hview : viewOfWord (wordOfView i.view) = i.view :=
    viewOfWord_wordOfView ((wellFormed_iff_view_encodable i).mp h)
  calc decode (encode i) = Instr.ofView (viewOfWord (wordOfView i.view)) := rfl
    _ = Instr.ofView i.view := by rw [hview]
    _ = i := ofView_view i

theorem decode_wellFormed (w : Word) : (decode w).wellFormed = true := by
  rw [wellFormed_iff_view_encodable, view_decode]
  exact viewOfWord_encodable w

/-- Settles O2: an instruction, its view and its word determine one another where the immediate fits
in 15 bits, and the immediate read from a word always does. -/
theorem decodeInvertsEncodeOnWellFormed : Obligations.DecodeInvertsEncodeOnWellFormed :=
  ⟨fun _ h => decode_encode h, decode_wellFormed⟩

end Laws

end Sys2Proof
end

section
/-! PROOFS of the family 41_a_instruction.md. An immediate and the word of its `@v` both have bit 15
clear: the first is why A is not negative after `@v`, the second why `@v` never reports halted. -/

namespace Sys2Proof.Laws

open Sys2Proof.Machine

theorem bit15_clear_of_immediate {v : Word} (h : v.toNat < 32768) : v.getLsbD 15 = false :=
  Nat.testBit_lt_two_pow h

theorem encode_aInstr (v : Word) : encode (.aInstr v) = 0#1 ++ v.extractLsb' 0 15 := rfl

theorem encode_aInstr_bit15 (v : Word) : (encode (.aInstr v)).getLsbD 15 = false :=
  wordOfView_a_bit15 v

theorem exec_aInstr (v : Word) (s : State) :
    exec (.aInstr v) s = .next { s with a := v, pc := s.pc + 1 } := rfl

/-- Only a word with bit 15 set can report halted (40_execution_cycle.md R105). -/
theorem haltSignal_of_bit15_clear {w : Word} (h : w.getLsbD 15 = false) (p : Params)
    (s s' : State) : haltSignal p s w s' = false := by
  have no_jump : unconditionalJump w = false := by rw [unconditionalJump, h, Bool.false_and]
  rw [haltSignal, no_jump, Bool.false_and]

/-- Settles O11: the encoding and the effect are the definitions' own, A is not negative because the
immediate fits in 15 bits, and no halt is reported because bit 15 of the word is clear. -/
theorem aInstructionLoadsItsImmediate : Obligations.AInstructionLoadsItsImmediate :=
  fun v s immediate => ⟨encode_aInstr v, exec_aInstr v s, bit15_clear_of_immediate immediate,
    fun p s' => haltSignal_of_bit15_clear (encode_aInstr_bit15 v) p s s'⟩

end Sys2Proof.Laws
end

section
/-! PROOFS of the family 42_c_alu.md. The classification of an ALU result (R132) read on the word and
on its signed value. -/

namespace Sys2Proof.Laws

open Sys2Proof.Machine

@[simp] theorem zr_iff (out : Word) : zr out = true ↔ out = 0 := beq_iff_eq

theorem ng_iff_bit15 (out : Word) : ng out = true ↔ out.getLsbD 15 = true := Iff.rfl

/-- Bit 15 is the sign bit of the two's complement reading (00_scope.md R6, R7). -/
theorem bit15_iff_toInt_neg (out : Word) : out.getLsbD 15 = true ↔ out.toInt < 0 := by
  have bit15_is_msb : out.getLsbD 15 = out.msb := (BitVec.msb_eq_getLsbD_last out).symm
  rw [bit15_is_msb, BitVec.msb_eq_toInt, decide_eq_true_iff]

@[simp] theorem ng_iff_toInt_neg (out : Word) : ng out = true ↔ out.toInt < 0 :=
  (ng_iff_bit15 out).trans (bit15_iff_toInt_neg out)

/-- The zero word has bit 15 clear. -/
theorem not_zr_and_ng (out : Word) : ¬ (zr out = true ∧ ng out = true) := by
  rintro ⟨zero, negative⟩
  obtain rfl : out = 0 := (zr_iff out).mp zero
  exact absurd negative (by decide)

theorem positive_iff (out : Word) :
    (!zr out && !ng out) = true ↔ zr out = false ∧ ng out = false := by
  rw [Bool.and_eq_true, Bool.not_eq_true', Bool.not_eq_true']

/-- Settles O23: zero and negative exclude one another because the zero word has bit 15 clear, and
positive is the remaining case. -/
theorem resultIsExactlyOneOfThree : Obligations.ResultIsExactlyOneOfThree :=
  fun out => ⟨zr_iff out, ng_iff_bit15 out, bit15_iff_toInt_neg out, not_zr_and_ng out,
    positive_iff out⟩

end Sys2Proof.Laws
end

section
/-! PROOFS of the family 70_reset_and_hazards.md. A reset keeps what it reads and writes constants
elsewhere, so a second one finds nothing to change (R251). -/

namespace Sys2Proof.Laws

open Sys2Proof.Machine

/-- For either value of RESET_RAM: the one reads ROM only, the other also RAM and SCREEN, and each
keeps what it reads. -/
theorem resetCpuWith_idempotent (r : ResetRam) (s : State) :
    resetCpuWith r (resetCpuWith r s) = resetCpuWith r s := by
  cases r with
  | zero => rfl
  | keep => rfl

theorem resetCpu_idempotent (s : State) : resetCpu (resetCpu s) = resetCpu s :=
  resetCpuWith_idempotent params.resetRam s

theorem reset_eq (ss : Session) : ss.reset = ⟨resetCpu ss.cpu, ss.breakpoints, .stopped⟩ := rfl

/-- Settles O41: the CPU's reset is idempotent, the breakpoints are kept, and the stepper is Stopped
after the first reset already. -/
theorem resetIsIdempotent : Obligations.ResetIsIdempotent := by
  intro ss
  rw [reset_eq ss, reset_eq, resetCpu_idempotent]

end Sys2Proof.Laws
end

section
/-! PROOFS of the family 'other', the data memory: what each access does in each region and what a
write leaves readable (20_memory.md section 2), and that the canonical form of a memory is unique
(10_state.md section 3). -/

namespace Sys2Proof.Laws

open Sys2Proof.Machine

/-! ### The accesses, region by region (20_memory.md R42 to R44) -/

section

variable {k : Nat} (s : State)

theorem memRead_ram (h : region k = .ram) : memRead k s = .ok (Memory.read s.ram k) := by
  rw [memRead, h]

theorem memRead_screen (h : region k = .screen) :
    memRead k s = .ok (Memory.read s.screen (k - 16384)) := by
  rw [memRead, h]
  rfl

theorem memRead_kbd (h : region k = .kbd) : memRead k s = .ok s.kbd := by
  rw [memRead, h]

theorem memRead_unmapped (h : region k = .unmapped) : memRead k s = .error (.readOutOfRange k) := by
  rw [memRead, h]

theorem memRead_outOfRange (h : region k = .outOfRange) :
    memRead k s = .error (.readOutOfRange k) := by
  rw [memRead, h]

variable (v : Word)

theorem memWrite_ram (h : region k = .ram) :
    memWrite k v s = .ok { s with ram := Memory.write s.ram k v } := by
  rw [memWrite, h]

theorem memWrite_screen (h : region k = .screen) :
    memWrite k v s = .ok { s with screen := Memory.write s.screen (k - 16384) v } := by
  rw [memWrite, h]
  rfl

theorem memWrite_kbd (h : region k = .kbd) : memWrite k v s = .ok s := by
  rw [memWrite, h]

theorem memWrite_unmapped (h : region k = .unmapped) :
    memWrite k v s = .error (.writeOutOfRange k) := by
  rw [memWrite, h]

theorem memWrite_outOfRange (h : region k = .outOfRange) :
    memWrite k v s = .error (.writeOutOfRange k) := by
  rw [memWrite, h]

end

/-- Settles O27: the rows of the decoder table are the branches of the decoder. -/
theorem addressDecoderRegions : Obligations.AddressDecoderRegions := fun _ =>
  ⟨fun h => region_ram (by omega), fun h h' => region_screen h (by omega),
    fun h => h ▸ region_kbd, fun h h' => region_unmapped (by omega) (by omega),
    fun h => region_outOfRange h⟩

/-- Settles O28, one clause for each region. -/
theorem memReadAnswersByRegion : Obligations.MemReadAnswersByRegion := fun _ s =>
  ⟨memRead_ram s, memRead_screen s, memRead_kbd s, memRead_unmapped s, memRead_outOfRange s⟩

/-! ### Reading after a write (20_memory.md R44, R45) -/

theorem memRead_mapped {k : Nat} (h : Mapped k) (s : State) : ∃ v, memRead k s = .ok v := by
  rcases memRead_cases k s with ⟨-, read⟩ | ⟨unmapped, -⟩
  · exact read
  · omega

theorem memWrite_mapped {k : Nat} (h : Mapped k) (v : Word) (s : State) :
    ∃ t, memWrite k v s = .ok t := by
  rcases memWrite_cases k v s with ⟨-, e⟩ | ⟨-, -, e⟩ | ⟨-, e⟩ | ⟨unmapped, -⟩
  · exact ⟨_, e⟩
  · exact ⟨_, e⟩
  · exact ⟨_, e⟩
  · omega

theorem memRead_not_mapped {k : Nat} (h : ¬ Mapped k) (s : State) :
    memRead k s = .error (.readOutOfRange k) := by
  rcases memRead_cases k s with ⟨mapped, -⟩ | ⟨-, e⟩
  · exact absurd mapped h
  · exact e

theorem memWrite_not_mapped {k : Nat} (h : ¬ Mapped k) (v : Word) (s : State) :
    memWrite k v s = .error (.writeOutOfRange k) := by
  rcases memWrite_cases k v s with ⟨_, -⟩ | ⟨-, _, -⟩ | ⟨_, -⟩ | ⟨-, e⟩
  · omega
  · omega
  · omega
  · exact e

/-- The part of `State.WF` that the data accesses keep and rely on: both memories are canonical and
inside their regions. -/
def DataCanonical (s : State) : Prop :=
  Memory.wf ramWords s.ram ∧ Memory.wf screenWords s.screen

theorem wf_iff (s : State) : s.WF ↔ DataCanonical s ∧ s.rom.length ≤ romMax := and_assoc.symm

theorem memWrite_canonical {k : Nat} {v : Word} {s t : State} (canonical : DataCanonical s)
    (h : memWrite k v s = .ok t) : DataCanonical t := by
  obtain ⟨ram, screen⟩ := canonical
  rcases memWrite_cases k v s with ⟨hk, e⟩ | ⟨_, hk, e⟩ | ⟨-, e⟩ | ⟨-, e⟩ <;>
    rw [e] at h <;> cases h
  · exact ⟨Memory.write_wf ram hk v, screen⟩
  · exact ⟨ram, Memory.write_wf screen (show k - 16384 < 8192 by omega) v⟩
  · exact ⟨ram, screen⟩

/-- In RAM and SCREEN a write is read back. -/
theorem memRead_memWrite_self {k : Nat} {v : Word} {s t : State} (canonical : DataCanonical s)
    (hk : k < 24576) (h : memWrite k v s = .ok t) : memRead k t = .ok v := by
  obtain ⟨ram, screen⟩ := canonical
  rcases memWrite_cases k v s with ⟨hk', e⟩ | ⟨hk', _, e⟩ | ⟨hk', -⟩ | ⟨hk', -⟩
  · rw [e] at h
    cases h
    rw [memRead_ram _ (region_ram hk'), Memory.read_write_self ram]
  · rw [e] at h
    cases h
    rw [memRead_screen _ (region_screen hk' hk), Memory.read_write_self screen]
  · omega
  · omega

/-- Every other address reads as before a write. -/
theorem memRead_memWrite_ne {k k' : Nat} {v : Word} {s t : State} (hne : k' ≠ k)
    (h : memWrite k v s = .ok t) : memRead k' t = memRead k' s := by
  rcases memWrite_cases k v s with ⟨-, e⟩ | ⟨hk, -, e⟩ | ⟨-, e⟩ | ⟨-, e⟩ <;> rw [e] at h <;> cases h
  · simp only [memRead, Memory.read_write_ne hne]
  · rcases region_cases k' with ⟨_, e'⟩ | ⟨hk', _, e'⟩ | ⟨_, e'⟩ | ⟨_, _, e'⟩ | ⟨_, e'⟩
    case inr.inl =>
      have hne' : k' - 16384 ≠ k - 16384 := by omega
      rw [memRead_screen _ e', memRead_screen _ e', Memory.read_write_ne hne']
    all_goals simp only [memRead, e']
  · rfl

theorem lt_kbd_of_region {k : Nat} (h : region k = .ram ∨ region k = .screen) : k < 24576 := by
  rcases region_cases k with ⟨_, -⟩ | ⟨-, hk, -⟩ | ⟨-, e⟩ | ⟨-, -, e⟩ | ⟨-, e⟩
  · omega
  · exact hk
  all_goals simp [e] at h

/-- Settles O29: in RAM and SCREEN a write is read back and changes no other address, and the
remaining clauses are the write's own in each region. -/
theorem memWriteStoresOneWord : Obligations.MemWriteStoresOneWord := by
  intro k v s wf
  refine ⟨fun stored => ?_, memWrite_kbd s v, memWrite_unmapped s v, memWrite_outOfRange s v⟩
  have hk : k < 24576 := lt_kbd_of_region stored
  obtain ⟨t, ht⟩ := memWrite_mapped hk.le v s
  refine ⟨t, ht, memRead_memWrite_self ((wf_iff s).mp wf).1 hk ht,
    fun _ hne => memRead_memWrite_ne hne ht, fun ram => ?_, fun screen => ?_⟩
  · rw [memWrite_ram s v ram] at ht
    cases ht
    rfl
  · rw [memWrite_screen s v screen] at ht
    cases ht
    rfl

/-! ### A sequence of writes (20_memory.md R45, R46) -/

/-- The state after a sequence of `MemWrite`s, an unmapped one skipped. -/
def writeAll (s : State) (writes : List (Nat × Word)) : State :=
  writes.foldl (fun t p => (memWrite p.1 p.2 t).toOption.getD t) s

theorem writeAll_concat (s : State) (writes : List (Nat × Word)) (p : Nat × Word) :
    writeAll s (writes ++ [p]) =
      (memWrite p.1 p.2 (writeAll s writes)).toOption.getD (writeAll s writes) := by
  simp only [writeAll, List.foldl_append, List.foldl_cons, List.foldl_nil]

theorem writeAll_canonical {s : State} (canonical : DataCanonical s) (writes : List (Nat × Word)) :
    DataCanonical (writeAll s writes) := by
  induction writes using List.reverseRecOn with
  | nil => exact canonical
  | append_singleton writes p ih =>
    rw [writeAll_concat]
    cases h : memWrite p.1 p.2 (writeAll s writes) with
    | error => exact ih
    | ok t => exact memWrite_canonical ih h

/-- In RAM and SCREEN the last write to an address is the one that is read, and without one the
address reads as before. -/
theorem memRead_writeAll {s : State} (canonical : DataCanonical s) {k : Nat} (hk : k < 24576)
    {z : Word} (hz : memRead k s = .ok z) (writes : List (Nat × Word))
    (mapped : ∀ p ∈ writes, Mapped p.1) :
    memRead k (writeAll s writes) =
      .ok (((writes.reverse.find? fun p => p.1 = k).map (·.2)).getD z) := by
  induction writes using List.reverseRecOn with
  | nil => exact hz
  | append_singleton writes p ih =>
    obtain ⟨t, ht⟩ := memWrite_mapped (mapped p (by simp)) p.2 (writeAll s writes)
    have write_last : writeAll s (writes ++ [p]) = t := by
      rw [writeAll_concat, ht]
      rfl
    rw [write_last, List.reverse_append, List.reverse_singleton, List.singleton_append]
    by_cases hp : p.1 = k
    · subst hp
      rw [memRead_memWrite_self (writeAll_canonical canonical writes) hk ht,
        List.find?_cons_of_pos (by simp)]
      rfl
    · rw [memRead_memWrite_ne (Ne.symm hp) ht, List.find?_cons_of_neg (by simpa using hp)]
      exact ih fun q hq => mapped q (List.mem_append_left _ hq)

/-- Every mapped word reads 0 after a reset or a load (10_state.md R31, R32). -/
theorem memRead_loaded (ws : List Word) {k : Nat} (h : Mapped k) :
    memRead k (State.loaded ws) = .ok 0 := by
  rcases region_cases k with ⟨_, e⟩ | ⟨_, _, e⟩ | ⟨_, e⟩ | ⟨_, _, _⟩ | ⟨_, _⟩
  · exact memRead_ram _ e
  · exact memRead_screen _ e
  · exact memRead_kbd _ e
  · omega
  · omega

theorem loaded_canonical (ws : List Word) : DataCanonical (State.loaded ws) :=
  ⟨Memory.wf_nil _, Memory.wf_nil _⟩

/-- R45 and R46 in one: they differ in the range of `k` only. -/
theorem memRead_writeAll_reset (s : State) {k : Nat} (hk : k < 24576)
    (writes : List (Nat × Word)) (mapped : ∀ p ∈ writes, Mapped p.1) :
    memRead k (writeAll (resetCpu s) writes) =
      .ok (((writes.reverse.find? fun p => p.1 = k).map (·.2)).getD 0) :=
  memRead_writeAll (loaded_canonical s.rom) hk (memRead_loaded s.rom hk.le) writes mapped

/-- Settles O30: RAM is the addresses of `memRead_writeAll_reset` below 16384. -/
theorem ramReadsTheLastValueWritten : Obligations.RamReadsTheLastValueWritten :=
  fun s writes _ mapped hk => memRead_writeAll_reset s (by omega) writes mapped

/-- Settles O51: SCREEN is the addresses of `memRead_writeAll_reset` from 16384 up. -/
theorem screenReadsTheLastValueWritten : Obligations.ScreenReadsTheLastValueWritten :=
  fun s writes _ mapped _ hk => memRead_writeAll_reset s (by omega) writes mapped

/-! ### The canonical form (10_state.md section 3) -/

theorem read_ne_unwritten_of_head {k : Nat} {v : Word} (m : Memory) (hv : v ≠ unwritten) :
    Memory.read ((k, v) :: m) k ≠ unwritten := by
  rwa [Memory.read_cons, if_pos rfl]

/-- Of two canonical memories that read alike, neither starts at a lower address than the other: the
other would read as unwritten there. -/
theorem not_first_address_lt {size k k' : Nat} {v v' : Word} {m m' : Memory}
    (wf : Memory.wf size ((k, v) :: m)) (wf' : Memory.wf size ((k', v') :: m'))
    (same : ∀ n, Memory.read ((k, v) :: m) n = Memory.read ((k', v') :: m') n) : ¬ k < k' := by
  intro hlt
  obtain ⟨-, -, hv, -⟩ := Memory.wf_cons.1 wf
  obtain ⟨above, -, -, -⟩ := Memory.wf_cons.1 wf'
  refine read_ne_unwritten_of_head m hv ((same k).trans (Memory.read_of_lt ?_))
  exact List.forall_mem_cons.2 ⟨hlt, fun p hp => hlt.trans (above p hp)⟩

/-- Removing the first entry of a canonical memory makes that address, and no other, read as
unwritten. -/
theorem memory_read_tail {size k : Nat} {v : Word} {m : Memory} (wf : Memory.wf size ((k, v) :: m))
    (n : Nat) :
    Memory.read m n = if n = k then unwritten else Memory.read ((k, v) :: m) n := by
  split
  · rename_i hn
    subst hn
    exact Memory.read_of_lt (Memory.wf_cons.1 wf).1
  · rename_i hn
    rw [Memory.read_cons, if_neg hn]

/-- Two canonical memories that read alike have the same first entry, and without it they read alike
again. -/
theorem canonical_memory_unique {size : Nat} {m m' : Memory} (wf : Memory.wf size m)
    (wf' : Memory.wf size m') (same : ∀ k, Memory.read m k = Memory.read m' k) : m = m' := by
  induction m generalizing m' with
  | nil =>
    cases m' with
    | nil => rfl
    | cons p' m' =>
      obtain ⟨-, -, hv', -⟩ := Memory.wf_cons.1 wf'
      exact absurd (same p'.1).symm (read_ne_unwritten_of_head m' hv')
  | cons p m ih =>
    obtain ⟨-, -, hv, tail⟩ := Memory.wf_cons.1 wf
    cases m' with
    | nil => exact absurd (same p.1) (read_ne_unwritten_of_head m hv)
    | cons p' m' =>
      obtain ⟨k, v⟩ := p
      obtain ⟨k', v'⟩ := p'
      obtain ⟨-, -, -, tail'⟩ := Memory.wf_cons.1 wf'
      obtain rfl : k = k' := by
        have := not_first_address_lt wf wf' same
        have := not_first_address_lt wf' wf fun n => (same n).symm
        omega
      obtain rfl : v = v' := by simpa [Memory.read_cons] using same k
      have same_tail : ∀ n, Memory.read m n = Memory.read m' n := fun n => by
        rw [memory_read_tail wf, memory_read_tail wf', same]
      rw [ih tail tail' same_tail]

/-- Settles O31, by induction on both lists, entry by entry. -/
theorem canonicalMemoriesAreEqualWhenTheyReadEqual :
    Obligations.CanonicalMemoriesAreEqualWhenTheyReadEqual :=
  fun _ _ _ wf wf' same => canonical_memory_unique wf wf' same

end Sys2Proof.Laws
end

section
/-! PROOFS of the family 'other', steps: what an instruction and a step keep, when they fault, and
that none is refused (40_execution_cycle.md section 1, 60_exceptions.md section 1). -/

namespace Sys2Proof.Laws

open Sys2Proof.Machine

/-! ### What an instruction that goes on has done -/

theorem storeM_canonical {dest : Dest} {out : Word} {s t : State} (canonical : DataCanonical s)
    (h : storeM dest out s = .ok t) : DataCanonical t := by
  cases hm : dest.m with
  | false =>
    rw [storeM_of_not hm] at h
    cases h
    exact canonical
  | true =>
    rw [storeM_of hm] at h
    exact memWrite_canonical canonical h

theorem exec_keeps {i : Instr} {s t : State} (h : exec i s = .next t) :
    t.kbd = s.kbd ∧ t.rom = s.rom ∧ t.fault = s.fault := by
  rcases exec_shape i s with ⟨v, -, -, e⟩ | ⟨_, _, _, _, _, -, e⟩ <;> rw [e] at h
  · cases h
    exact ⟨rfl, rfl, rfl⟩
  · obtain ⟨y, m, -, stored, rfl⟩ := compute_next h
    obtain ⟨-, -, -, kbd, rom, mark⟩ := storeM_ok stored
    exact ⟨kbd, rom, mark⟩

theorem exec_canonical {i : Instr} {s t : State} (canonical : DataCanonical s)
    (h : exec i s = .next t) : DataCanonical t := by
  rcases exec_shape i s with ⟨v, -, -, e⟩ | ⟨_, _, _, _, _, -, e⟩ <;> rw [e] at h
  · cases h
    exact canonical
  · obtain ⟨y, m, -, stored, rfl⟩ := compute_next h
    exact (storeM_canonical canonical stored : DataCanonical m)

/-- JUMP_TARGET_SOURCE is PRE_A (43_c_dest_jump.md R193). -/
theorem nextPc_params (dest : Dest) (jump : Jump) (out : Word) (s : State) :
    nextPc params dest jump out s = if take jump out then s.a else s.pc + 1 := rfl

theorem ne_never_of_take {jump : Jump} {out : Word} (h : take jump out = true) :
    jump ≠ .never := by
  rintro rfl
  cases h

/-- Settles O25: an A-instruction goes on, and a C-instruction goes on unless its jump is taken. -/
theorem controlGoesOnOrToTheOldA : Obligations.ControlGoesOnOrToTheOldA := by
  intro i s t h
  rcases exec_shape i s with ⟨v, -, -, e⟩ | ⟨u, src, k, dest, jump, view, e⟩ <;> rw [e] at h
  · cases h
    exact .inl rfl
  · obtain ⟨y, m, -, -, rfl⟩ := compute_next h
    by_cases taken : take jump (compFunction i s.d y) = true
    · refine .inr ⟨u, src, k, dest, jump, view, ne_never_of_take taken, ?_⟩
      exact (nextPc_params ..).trans (if_pos taken)
    · exact .inl ((nextPc_params ..).trans (if_neg taken))

/-! ### What a step keeps -/

theorem step_keeps {s t : State} (h : step s = .next t) : t.kbd = s.kbd ∧ t.rom = s.rom := by
  obtain ⟨-, w, -, executed⟩ := step_next h
  obtain ⟨kbd, rom, -⟩ := exec_keeps executed
  exact ⟨kbd, rom⟩

/-- Settles O32: a store keeps the memories canonical, and a step leaves ROM as it was. -/
theorem everyStepKeepsTheStateWellFormed : Obligations.EveryStepKeepsTheStateWellFormed := by
  intro s t wf h
  obtain ⟨canonical, rom⟩ := (wf_iff s).mp wf
  obtain ⟨-, w, -, executed⟩ := step_next h
  exact (wf_iff t).mpr ⟨exec_canonical canonical executed, (step_keeps h).2 ▸ rom⟩

/-! ### Fetch, fault mark and refusal -/

theorem exec_ne_refused (i : Instr) (s : State) (r : Refusal) : exec i s ≠ .refused r := by
  rcases exec_shape i s with ⟨v, -, -, e⟩ | ⟨_, _, _, _, _, -, e⟩ <;> rw [e]
  · exact nofun
  · exact compute_ne_refused _ _ _ _ _ _ _

theorem step_of_mark {s : State} {r : Fault} (h : s.fault = some r) : step s = .fault r := by
  rw [step, h]

theorem step_of_fetch_fault {s : State} (mark : s.fault = none)
    (h : s.rom.length ≤ s.pc.toNat) : step s = .fault (.fetchOutOfRange s.pc) := by
  rw [step, mark, romRead_error.mpr ⟨h, rfl⟩]

theorem step_ne_refused (s : State) (r : Refusal) : step s ≠ .refused r := by
  cases mark : s.fault with
  | some q => rw [step_of_mark mark]; exact nofun
  | none =>
    cases fetch : s.rom[s.pc.toNat]? with
    | none => rw [step_of_fetch_fault mark (List.getElem?_eq_none_iff.mp fetch)]; exact nofun
    | some w => rw [step_of_fetch mark fetch]; exact exec_ne_refused _ _ _

/-- Settles O6: a step is refused only where its instruction is. -/
theorem noInstructionIsRefused : Obligations.NoInstructionIsRefused :=
  ⟨exec_ne_refused, step_ne_refused⟩

/-- Settles O7: the second clause is the first at the word of a well-formed instruction. -/
theorem stepFetchesAndExecutesTheWordAtPc : Obligations.StepFetchesAndExecutesTheWordAtPc := by
  refine fun s mark => ⟨fun w fetch => step_of_fetch mark fetch, fun i wf fetch => ?_⟩
  rw [step_of_fetch mark fetch, decode_encode wf]

/-- Settles O8: this is the fault of a fetch. -/
theorem fetchPastTheProgramFaults : Obligations.FetchPastTheProgramFaults :=
  fun _ mark past => step_of_fetch_fault mark past

/-! ### The CPU step (40_execution_cycle.md R100, R104) -/

theorem cpuStep_of_next {s t : State} (h : step s = .next t) :
    cpuStep s = .stepped t (haltSignal params s (s.rom[s.pc.toNat]?.getD 0) t) := by
  rw [cpuStep, h]

theorem cpuStep_of_fault {s : State} {r : Fault} (h : step s = .fault r) :
    cpuStep s = .faulted (raiseFault r s) := by
  rw [cpuStep, h]

/-- A CPU step goes on where the step does, and faults where it does: nothing is refused. -/
theorem cpuStep_cases (s : State) :
    (∃ t, step s = .next t ∧
      cpuStep s = .stepped t (haltSignal params s (s.rom[s.pc.toNat]?.getD 0) t)) ∨
    ∃ r, step s = .fault r ∧ cpuStep s = .faulted (raiseFault r s) := by
  cases h : step s with
  | next t => exact .inl ⟨t, rfl, cpuStep_of_next h⟩
  | fault r => exact .inr ⟨r, rfl, cpuStep_of_fault h⟩
  | refused r => exact absurd h (step_ne_refused s r)

theorem cpuStep_stepped {s t : State} {halted : Bool} (h : cpuStep s = .stepped t halted) :
    step s = .next t ∧ halted = haltSignal params s (s.rom[s.pc.toNat]?.getD 0) t := by
  rcases cpuStep_cases s with ⟨t', next, e⟩ | ⟨r, -, e⟩ <;> rw [e] at h <;> cases h
  exact ⟨next, rfl⟩

theorem cpuStep_faulted {s t : State} (h : cpuStep s = .faulted t) :
    ∃ r, step s = .fault r ∧ t = raiseFault r s := by
  rcases cpuStep_cases s with ⟨t', -, e⟩ | ⟨r, fault, e⟩ <;> rw [e] at h <;> cases h
  exact ⟨r, fault, rfl⟩

/-- Settles O37: raising a fault sets the mark and nothing else. -/
theorem faultingStepCommitsNothing : Obligations.FaultingStepCommitsNothing :=
  fun _ _ h => cpuStep_faulted h

theorem raiseFault_of_mark {s : State} {r : Fault} (h : s.fault = some r) : raiseFault r s = s := by
  rw [raiseFault, ← h]

/-- Settles O9: raising the recorded fault again sets the mark to what it is. -/
theorem faultedStateTakesNoStep : Obligations.FaultedStateTakesNoStep := by
  intro s r mark
  have step_faults : step s = .fault r := step_of_mark mark
  have cpu_stays : cpuStep s = .faulted s := by
    rw [cpuStep_of_fault step_faults, raiseFault_of_mark mark]
  exact ⟨step_faults, cpu_stays, fun bps n => runBy_faulted cpu_stays bps n⟩

end Sys2Proof.Laws
end

section
/-! PROOFS of the family 'other', loads and the debugging session: what a load makes live, what each
host move does to the CPU, the breakpoints and the stepper (60_exceptions.md section 4,
70_reset_and_hazards.md). -/

namespace Sys2Proof.Laws

open Sys2Proof.Machine

/-! ### Loads (70_reset_and_hazards.md R252) -/

theorem checkLength_eq_ok {ws ws' : List Word} :
    checkLength ws = .ok ws' ↔ ws' = ws ∧ 1 ≤ ws.length ∧ ws.length ≤ romMax := by
  unfold checkLength
  split
  · exact iff_of_false nofun fun ⟨_, nonempty, _⟩ => by omega
  · split
    · exact iff_of_false nofun fun ⟨_, _, fits⟩ => by omega
    · have counted : 1 ≤ ws.length ∧ ws.length ≤ romMax := by omega
      rw [and_iff_left counted, Except.ok.injEq, eq_comm]

theorem program_eq_ok {r : LoadRequest} {ws : List Word} :
    r.program = .ok ws ↔ r.words = .ok ws ∧ 1 ≤ ws.length ∧ ws.length ≤ romMax := by
  unfold LoadRequest.program
  cases r.words with
  | error e => simp
  | ok ws' =>
    simp only [checkLength_eq_ok, Except.ok.injEq, eq_comm (a := ws)]
    constructor <;> rintro ⟨rfl, h⟩ <;> exact ⟨rfl, h⟩

theorem load_of_program {r : LoadRequest} {ws : List Word} (h : r.program = .ok ws)
    (ss : Session) : ss.load r = ⟨State.loaded ws, ss.breakpoints, .stopped⟩ := by
  rw [Session.load, h]

theorem load_of_error {r : LoadRequest} {e : LoadError} (h : r.program = .error e)
    (ss : Session) : ss.load r = ss := by
  rw [Session.load, h]

/-- Settles O42: a load succeeds exactly when the words it spells are 1 to ROM_MAX many. -/
theorem loadReplacesTheProgramOrChangesNothing :
    Obligations.LoadReplacesTheProgramOrChangesNothing := by
  intro r ss
  cases h : r.program with
  | ok ws =>
    obtain ⟨spelled, nonempty, fits⟩ := program_eq_ok.mp h
    exact .inl ⟨ws, spelled, nonempty, fits, load_of_program h ss⟩
  | error e =>
    refine .inr ⟨fun ws spelled => ?_, load_of_error h ss⟩
    have not_program : ¬ (1 ≤ ws.length ∧ ws.length ≤ romMax) := fun fits => by
      have := program_eq_ok.mpr ⟨spelled, fits⟩
      rw [h] at this
      cases this
    unfold romMax at not_program
    omega

theorem loaded_wf {ws : List Word} (h : ws.length ≤ romMax) : (State.loaded ws).WF :=
  (wf_iff _).mpr ⟨loaded_canonical ws, h⟩

/-- Settles O33: both memories are empty, and a launched program has passed the length check. -/
theorem resetStateIsWellFormed : Obligations.ResetStateIsWellFormed := by
  refine ⟨loaded_wf (ws := []) (Nat.zero_le _), ?_⟩
  rintro ws s ⟨checked, rfl⟩
  exact loaded_wf (checkLength_eq_ok.mp checked).2.2

/-- Settles O40: a reset is the load of the program that is there. -/
theorem resetLeavesTheResetValues : Obligations.ResetLeavesTheResetValues := fun ss =>
  ⟨rfl, rfl, rfl, rfl, rfl, rfl, fun _ mapped => memRead_loaded ss.cpu.rom mapped, rfl, rfl⟩

/-! ### The CPU under a host move -/

/-- What every step keeps, and the fault mark does not touch, a run keeps. -/
theorem run_keeps {P : State → Prop} (steps : ∀ s t, P s → step s = .next t → P t)
    (marks : ∀ r s, P s → P (raiseFault r s)) (bps : List Breakpoint) (n : Nat) {s : State}
    (h : P s) : P (run bps n s).1 := by
  refine runBy_induction (fun s t b hs stepped => ?_) (fun s t hs faulted => ?_) bps n s h
  · exact steps s t hs (cpuStep_stepped stepped).1
  · obtain ⟨r, -, rfl⟩ := cpuStep_faulted faulted
    exact marks r s hs

/-- What every step keeps, and the fault mark does not touch, every host move keeps, if a load, a
reset and a keyboard input do. -/
theorem move_keeps {P : State → Prop} (steps : ∀ s t, P s → step s = .next t → P t)
    (marks : ∀ r s, P s → P (raiseFault r s)) {ss : Session} (h : P ss.cpu) (m : HostMove)
    (load : ∀ r ws, m = .load r → r.program = .ok ws → P (State.loaded ws))
    (reset : m = .reset → P (State.loaded ss.cpu.rom))
    (keyboard : ∀ v, m = .setKeyboard v → P (setKeyboard v ss.cpu)) : P (ss.move m).cpu := by
  cases m with
  | load r =>
    show P (ss.load r).cpu
    cases hr : r.program with
    | error e => rwa [load_of_error hr]
    | ok ws => rw [load_of_program hr]; exact load r ws rfl hr
  | reset => exact reset rfl
  | setKeyboard v => exact keyboard v rfl
  | step => exact run_keeps steps marks ss.breakpoints 1 h
  | run n => exact run_keeps steps marks ss.breakpoints n h
  | singleStep => exact run_keeps steps marks ss.breakpoints 1 h
  | addBreakpoint b =>
    show P (ss.addBreakpoint b).cpu
    unfold Session.addBreakpoint
    split <;> exact h
  | removeBreakpoint b => exact h
  | runRequest => exact h
  | pauseRequest => exact h
  | readState => exact h

/-- Settles O35: a step and the fault mark leave ROM, a reset puts the same ROM back, and a keyboard
input touches only KBD. -/
theorem onlyALoadWritesRom : Obligations.OnlyALoadWritesRom := by
  refine ⟨fun s t h => (step_keeps h).2, fun m ss not_load => ?_, fun r ss ws h => ?_⟩
  · exact move_keeps (P := fun s => s.rom = ss.cpu.rom)
      (fun s t hs h => (step_keeps h).2.trans hs) (fun r s hs => hs) rfl m
      (fun r ws hm => absurd hm (not_load r)) (fun _ => rfl) (fun v _ => rfl)
  · have loads : ss.move (.load r) = _ := load_of_program h ss
    rw [loads]
    exact ⟨rfl, rfl⟩

/-- Settles O36: a step and the fault mark leave KBD. -/
theorem onlyTheHostWritesTheKeyboardWord : Obligations.OnlyTheHostWritesTheKeyboardWord := by
  refine ⟨fun s t h => (step_keeps h).1, fun v ss => ⟨rfl, memRead_kbd _ region_kbd⟩, ?_⟩
  intro m ss not_keyboard not_reset not_load
  exact move_keeps (P := fun s => s.kbd = ss.cpu.kbd)
    (fun s t hs h => (step_keeps h).1.trans hs) (fun r s hs => hs) rfl m
    (fun r ws hm => absurd hm (not_load r)) (fun hm => absurd hm not_reset)
    (fun v hm => absurd hm (not_keyboard v))

theorem move_cpu_wf {ss : Session} (wf : ss.cpu.WF) (m : HostMove) : (ss.move m).cpu.WF :=
  move_keeps (P := State.WF) everyStepKeepsTheStateWellFormed (fun _ _ h => h) wf m
    (fun _ _ _ loads => loaded_wf (program_eq_ok.mp loads).2.2) (fun _ => loaded_wf wf.2.2)
    (fun _ _ => wf)

/-! ### The breakpoints (60_exceptions.md R225) -/

/-- The second half of `Session.WF`. -/
def AcceptedSet (bps : List Breakpoint) : Prop :=
  bps.Nodup ∧ ∀ b ∈ bps, b.acceptable = true

theorem addBreakpoint_breakpoints (b : Breakpoint) (ss : Session) :
    (ss.addBreakpoint b).breakpoints =
      if b.acceptable = true ∧ b ∉ ss.breakpoints then b :: ss.breakpoints
      else ss.breakpoints := by
  have guard : (b.acceptable && !ss.breakpoints.contains b) = true ↔
      b.acceptable = true ∧ b ∉ ss.breakpoints := by simp
  unfold Session.addBreakpoint
  simp only [guard]
  split <;> rfl

theorem move_breakpoints (ss : Session) (m : HostMove) (h : AcceptedSet ss.breakpoints) :
    AcceptedSet (ss.move m).breakpoints := by
  obtain ⟨nodup, accepted⟩ := h
  cases m with
  | addBreakpoint b =>
    show AcceptedSet (ss.addBreakpoint b).breakpoints
    rw [addBreakpoint_breakpoints]
    split
    · rename_i new
      exact ⟨nodup.cons new.2, List.forall_mem_cons.2 ⟨new.1, accepted⟩⟩
    · exact ⟨nodup, accepted⟩
  | removeBreakpoint b =>
    exact ⟨nodup.filter _, fun b' hb' => accepted b' (List.mem_of_mem_filter hb')⟩
  | load r =>
    show AcceptedSet (ss.load r).breakpoints
    cases hr : r.program with
    | error e => rw [load_of_error hr]; exact ⟨nodup, accepted⟩
    | ok ws => rw [load_of_program hr]; exact ⟨nodup, accepted⟩
  | reset | setKeyboard v | step | run n | runRequest | pauseRequest | singleStep | readState =>
    exact ⟨nodup, accepted⟩

theorem move_wf {ss : Session} (wf : ss.WF) (m : HostMove) : (ss.move m).WF :=
  ⟨move_cpu_wf wf.1 m, move_breakpoints ss m wf.2⟩

theorem moves_wf {ss : Session} (wf : ss.WF) (ms : List HostMove) : (ss.moves ms).WF := by
  induction ms generalizing ss with
  | nil => exact wf
  | cons m ms ih => exact ih (move_wf wf m)

/-- Settles O34: each move keeps the invariant of the session. -/
theorem hostMovesKeepTheSessionWellFormed : Obligations.HostMovesKeepTheSessionWellFormed :=
  ⟨⟨resetStateIsWellFormed.1, List.nodup_nil, nofun⟩, fun ms _ wf => moves_wf wf ms⟩

theorem addBreakpoint_refused {b : Breakpoint} (h : b.acceptable = false) (ss : Session) :
    ss.addBreakpoint b = ss := by
  simp [Session.addBreakpoint, h]

theorem mem_addBreakpoint {b : Breakpoint} (h : b.acceptable = true) (ss : Session) :
    b ∈ (ss.addBreakpoint b).breakpoints := by
  rw [addBreakpoint_breakpoints]
  split
  · exact List.mem_cons_self
  · rename_i present
    exact not_not.mp fun absent => present ⟨h, absent⟩

theorem acceptable_mem (k : Nat) (v : Word) :
    (⟨.mem k, v⟩ : Breakpoint).acceptable = decide (k ≤ 24576) := rfl

/-- Settles O50: a refused breakpoint changes nothing, and an accepted one is in the set after the
request, whether it was before or not. -/
theorem breakpointsOnUnmappedCellsAreRefused :
    Obligations.BreakpointsOnUnmappedCellsAreRefused := by
  refine fun ss k v => ⟨fun unmapped => addBreakpoint_refused ?_ ss,
    fun mapped => mem_addBreakpoint ?_ ss, mem_addBreakpoint rfl ss, mem_addBreakpoint rfl ss,
    mem_addBreakpoint rfl ss⟩
  · rw [acceptable_mem, decide_eq_false_iff_not]
    omega
  · rw [acceptable_mem, decide_eq_true_iff]
    exact mapped

/-! ### The stepper (60_exceptions.md R229) -/

theorem afterRun_of_ended {r : RunResult} (h : r ≠ .notHalted) (st : Stepper) :
    Stepper.afterRun r st = .halted := by
  cases r with
  | halted => rfl
  | faulted => rfl
  | notHalted => exact absurd rfl h

/-- Settles O49, one transition after the other. -/
theorem stepperTransitions : Obligations.StepperTransitions := by
  refine fun ss => ⟨rfl, fun running => ?_, fun n ended => afterRun_of_ended ended ss.stepper,
    fun n exhausted running => ?_, rfl, fun r ws loads => ?_⟩
  · exact if_pos running
  · show Stepper.afterRun (ss.runResult n) ss.stepper = .stopped
    rw [exhausted, running]
    rfl
  · show (ss.load r).stepper = .stopped
    rw [load_of_program loads]

end Sys2Proof.Laws
end

section
/-! PROOFS of the family 'other', the ALU: the closed form of each of the 64 function codes, held to
the control-bit formula (42_c_alu.md R131, R133 to R162). -/

namespace Sys2Proof.Laws

open Sys2Proof.Machine

/-- What each function code computes, as the rules word it: the canonical codes by R133 to R160, the
others by the table of R162. -/
def closedForm (k : Ctl) (x y : Word) : Word :=
  match k with
  | ⟨false, false, false, false, false, false⟩ => x &&& y
  | ⟨false, false, false, false, false, true⟩ => ~~~(x &&& y)
  | ⟨false, false, false, false, true, false⟩ => x + y
  | ⟨false, false, false, false, true, true⟩ => -x - y - 1
  | ⟨false, false, false, true, false, false⟩ => x &&& ~~~y
  | ⟨false, false, false, true, false, true⟩ => ~~~x ||| y
  | ⟨false, false, false, true, true, false⟩ => x - y - 1
  | ⟨false, false, false, true, true, true⟩ => y - x
  | ⟨false, false, true, false, false, false⟩ => 0x0000
  | ⟨false, false, true, false, false, true⟩ => 0xFFFF
  | ⟨false, false, true, false, true, false⟩ => x
  | ⟨false, false, true, false, true, true⟩ => ~~~x
  | ⟨false, false, true, true, false, false⟩ => x
  | ⟨false, false, true, true, false, true⟩ => ~~~x
  | ⟨false, false, true, true, true, false⟩ => x - 1
  | ⟨false, false, true, true, true, true⟩ => 0 - x
  | ⟨false, true, false, false, false, false⟩ => ~~~x &&& y
  | ⟨false, true, false, false, false, true⟩ => x ||| ~~~y
  | ⟨false, true, false, false, true, false⟩ => y - x - 1
  | ⟨false, true, false, false, true, true⟩ => x - y
  | ⟨false, true, false, true, false, false⟩ => ~~~(x ||| y)
  | ⟨false, true, false, true, false, true⟩ => x ||| y
  | ⟨false, true, false, true, true, false⟩ => -x - y - 2
  | ⟨false, true, false, true, true, true⟩ => x + y + 1
  | ⟨false, true, true, false, false, false⟩ => 0x0000
  | ⟨false, true, true, false, false, true⟩ => 0xFFFF
  | ⟨false, true, true, false, true, false⟩ => ~~~x
  | ⟨false, true, true, false, true, true⟩ => x
  | ⟨false, true, true, true, false, false⟩ => ~~~x
  | ⟨false, true, true, true, false, true⟩ => x
  | ⟨false, true, true, true, true, false⟩ => -x - 2
  | ⟨false, true, true, true, true, true⟩ => x + 1
  | ⟨true, false, false, false, false, false⟩ => 0x0000
  | ⟨true, false, false, false, false, true⟩ => 0xFFFF
  | ⟨true, false, false, false, true, false⟩ => y
  | ⟨true, false, false, false, true, true⟩ => ~~~y
  | ⟨true, false, false, true, false, false⟩ => 0x0000
  | ⟨true, false, false, true, false, true⟩ => 0xFFFF
  | ⟨true, false, false, true, true, false⟩ => ~~~y
  | ⟨true, false, false, true, true, true⟩ => y
  | ⟨true, false, true, false, false, false⟩ => 0x0000
  | ⟨true, false, true, false, false, true⟩ => 0xFFFF
  | ⟨true, false, true, false, true, false⟩ => 0x0000
  | ⟨true, false, true, false, true, true⟩ => 0xFFFF
  | ⟨true, false, true, true, false, false⟩ => 0x0000
  | ⟨true, false, true, true, false, true⟩ => 0xFFFF
  | ⟨true, false, true, true, true, false⟩ => 0xFFFF
  | ⟨true, false, true, true, true, true⟩ => 0x0000
  | ⟨true, true, false, false, false, false⟩ => y
  | ⟨true, true, false, false, false, true⟩ => ~~~y
  | ⟨true, true, false, false, true, false⟩ => y - 1
  | ⟨true, true, false, false, true, true⟩ => 0 - y
  | ⟨true, true, false, true, false, false⟩ => ~~~y
  | ⟨true, true, false, true, false, true⟩ => y
  | ⟨true, true, false, true, true, false⟩ => -y - 2
  | ⟨true, true, false, true, true, true⟩ => y + 1
  | ⟨true, true, true, false, false, false⟩ => 0x0000
  | ⟨true, true, true, false, false, true⟩ => 0xFFFF
  | ⟨true, true, true, false, true, false⟩ => 0xFFFF
  | ⟨true, true, true, false, true, true⟩ => 0x0000
  | ⟨true, true, true, true, false, false⟩ => 0xFFFF
  | ⟨true, true, true, true, false, true⟩ => 0x0000
  | ⟨true, true, true, true, true, false⟩ => 0xFFFE
  | ⟨true, true, true, true, true, true⟩ => 0x0001

theorem allOnes_word_and (v : Word) : 0xFFFF#16 &&& v = v := BitVec.allOnes_and

theorem and_allOnes_word (v : Word) : v &&& 0xFFFF#16 = v := BitVec.and_allOnes

/-- The codes with `f` = 0. Each operand enters as it is, inverted, as 0 or as all ones, and the
inversions are moved by De Morgan's laws. -/
theorem alu_and (zx nx zy ny no : Bool) (x y : Word) :
    alu ⟨zx, nx, zy, ny, false, no⟩ x y = closedForm ⟨zx, nx, zy, ny, false, no⟩ x y := by
  cases zx <;> cases nx <;> cases zy <;> cases ny <;> cases no
  all_goals
    simp [alu, closedForm, BitVec.not_and, BitVec.not_or, allOnes_word_and, and_allOnes_word]

/-- The codes with `f` = 1. Inversion is `-v - 1`, so each is a sum of operands and constants. -/
theorem alu_add (zx nx zy ny no : Bool) (x y : Word) :
    alu ⟨zx, nx, zy, ny, true, no⟩ x y = closedForm ⟨zx, nx, zy, ny, true, no⟩ x y := by
  cases zx <;> cases nx <;> cases zy <;> cases ny <;> cases no
  all_goals
    simp only [alu, closedForm, if_true, if_false, Bool.false_eq_true, BitVec.not_eq_neg_add] <;>
    bv_omega

theorem alu_eq_closedForm (k : Ctl) (x y : Word) : alu k x y = closedForm k x y := by
  obtain ⟨zx, nx, zy, ny, f, no⟩ := k
  cases f with
  | false => exact alu_and zx nx zy ny no x y
  | true => exact alu_add zx nx zy ny no x y

end Sys2Proof.Laws
end

section
/-! PROOFS of the family 'other', encoding: the fields of a C-instruction's word put together, and
every word read back (30_encoding.md R71 to R79). -/

namespace Sys2Proof.Laws

open Sys2Proof.Machine

/-! ### The fields of a word (R72, R78, R79) -/

theorem destField_eq (d : Dest) :
    destField d = BitVec.ofBool d.a ++ BitVec.ofBool d.d ++ BitVec.ofBool d.m := by
  obtain ⟨a, d, m⟩ := d
  cases a <;> cases d <;> cases m <;> rfl

theorem jumpField_eq (j : Jump) :
    jumpField j = BitVec.ofBool j.lt ++ BitVec.ofBool j.eq ++ BitVec.ofBool j.gt := by
  cases j <;> rfl

theorem wordOfView_c (u : BitVec 2) (src : Operand) (k : Ctl) (d : Dest) (j : Jump) :
    wordOfView (.c u src k d j) = 1#1 ++ u ++ BitVec.ofBool src.bit
      ++ BitVec.ofBool k.zx ++ BitVec.ofBool k.nx ++ BitVec.ofBool k.zy
      ++ BitVec.ofBool k.ny ++ BitVec.ofBool k.f ++ BitVec.ofBool k.no
      ++ destField d ++ jumpField j := by
  rw [destField_eq, jumpField_eq]
  simp only [wordOfView, BitVec.append_assoc, BitVec.cast_eq]

/-- The comp field `a cccccc` (R72). -/
def compField (src : Operand) (k : Ctl) : BitVec 7 :=
  BitVec.ofBool src.bit ++ BitVec.ofBool k.zx ++ BitVec.ofBool k.nx ++ BitVec.ofBool k.zy
    ++ BitVec.ofBool k.ny ++ BitVec.ofBool k.f ++ BitVec.ofBool k.no

theorem wordOfView_c_eq_cWord (u : BitVec 2) (src : Operand) (k : Ctl) (d : Dest) (j : Jump) :
    wordOfView (.c u src k d j) = cWord u (compField src k) d j := by
  rw [wordOfView_c]
  simp only [cWord, compField, BitVec.append_assoc, BitVec.cast_eq]

theorem encode_of_view {i : Instr} {v : View} (h : i.view = v) : encode i = wordOfView v :=
  congrArg wordOfView h

theorem encode_jumpField {i : Instr} {u : BitVec 2} {src : Operand} {k : Ctl} {d : Dest} {j : Jump}
    (h : i.view = .c u src k d j) : (encode i).extractLsb' 0 3 = jumpField j := by
  rw [encode_of_view h, wordOfView_c]
  exact BitVec.extractLsb'_append_eq_right

theorem operand_bit_eq (src : Operand) : src.bit = (src == .m) := by
  cases src <;> rfl

/-! ### Every word is the word of its view (R76 after R74) -/

theorem viewOfWord_of_bit15_clear {w : Word} (h : w.getLsbD 15 = false) :
    viewOfWord w = .a (0#1 ++ w.extractLsb' 0 15) := by
  have widened : (w.extractLsb' 0 15).setWidth 16 = 0#1 ++ w.extractLsb' 0 15 :=
    BitVec.setWidth_eq_append (by decide)
  simp only [viewOfWord, h, Bool.false_eq_true, if_false, widened]

theorem viewOfWord_of_bit15_set {w : Word} (h : w.getLsbD 15 = true) :
    viewOfWord w = .c (w.extractLsb' 13 2) (Operand.ofBit (w.getLsbD 12))
      ⟨w.getLsbD 11, w.getLsbD 10, w.getLsbD 9, w.getLsbD 8, w.getLsbD 7, w.getLsbD 6⟩
      ⟨w.getLsbD 5, w.getLsbD 4, w.getLsbD 3⟩
      (Jump.ofBits (w.getLsbD 2) (w.getLsbD 1) (w.getLsbD 0)) :=
  if_pos h

theorem wordOfView_viewOfWord (w : Word) : wordOfView (viewOfWord w) = w := by
  refine BitVec.eq_of_getLsbD_eq fun n hn => ?_
  cases h : w.getLsbD 15 with
  | false =>
    rw [viewOfWord_of_bit15_clear h]
    by_cases hn15 : n < 15
    · rw [wordOfView_a_bits _ hn15]
      simp only [BitVec.getLsbD_append, BitVec.getLsbD_extractLsb', hn15, decide_true, Nat.zero_add,
        Bool.true_and, if_true]
    · obtain rfl : n = 15 := by omega
      rw [wordOfView_a_bit15, h]
  | true =>
    rw [viewOfWord_of_bit15_set h]
    interval_cases n
    all_goals
      simp [wordOfView_c_bit15, wordOfView_c_bit14, wordOfView_c_bit13, wordOfView_c_bit12,
        wordOfView_c_bit11, wordOfView_c_bit10, wordOfView_c_bit9, wordOfView_c_bit8,
        wordOfView_c_bit7, wordOfView_c_bit6, wordOfView_c_bit5, wordOfView_c_bit4,
        wordOfView_c_bit3, wordOfView_c_bit2, wordOfView_c_bit1, wordOfView_c_bit0, h,
        -BitVec.getLsbD_eq_getElem]

theorem encode_decode (w : Word) : encode (decode w) = w := by
  rw [encode_of_view (view_decode w), wordOfView_viewOfWord]

theorem decode_injective {w w' : Word} (h : decode w = decode w') : w = w' := by
  rw [← encode_decode w, h, encode_decode]

/-- Settles O1: the fields in order are the word of a view, and every word is that of its view. -/
theorem encodeInvertsDecodeOnEveryWord : Obligations.EncodeInvertsDecodeOnEveryWord := by
  refine ⟨encode_aInstr, fun i u src k dest jump view => ?_, encode_decode,
    fun w w' => decode_injective⟩
  rw [encode_of_view view, wordOfView_c, operand_bit_eq]

theorem jumpField_ofBits (w : Word) :
    jumpField (Jump.ofBits (w.getLsbD 2) (w.getLsbD 1) (w.getLsbD 0)) = w.extractLsb' 0 3 := by
  rw [jumpField_eq, Jump.lt_ofBits, Jump.eq_ofBits, Jump.gt_ofBits]
  refine BitVec.eq_of_getLsbD_eq fun n hn => ?_
  simp only [BitVec.getLsbD_append, BitVec.getLsbD_ofBool, BitVec.getLsbD_extractLsb']
  interval_cases n <;> simp [-BitVec.getLsbD_eq_getElem]

/-- Settles O3: these are the fields of the word's view. -/
theorem decodeExposesEveryField : Obligations.DecodeExposesEveryField := by
  refine fun w => ⟨fun clear => ?_, fun is_c => ?_⟩
  · exact congrArg Instr.ofView (viewOfWord_of_bit15_clear clear)
  · refine ⟨_, _, _, _, (view_decode w).trans (viewOfWord_of_bit15_set is_c), ?_, rfl, rfl,
      jumpField_ofBits w⟩
    cases w.getLsbD 12 <;> decide

/-- Settles O4, by decoding each word. -/
theorem specWordsDecodeAsListed : Obligations.SpecWordsDecodeAsListed := by
  unfold Obligations.SpecWordsDecodeAsListed
  decide

end Sys2Proof.Laws
end

section
/-! PROOFS of the family 'other', C-instructions: every instruction is what its decoded view says,
with the ALU formula on its code, and when a C-instruction completes or faults
(40_execution_cycle.md R100, 60_exceptions.md R212). -/

namespace Sys2Proof.Laws

open Sys2Proof.Machine

/-! ### An instruction is its decoded view -/

/-- The function of a C-instruction is the formula on its code: the canonical comps and the closed
forms of their codes agree, and the others are the formula by definition. -/
theorem compFunction_eq_alu {i : Instr} {u : BitVec 2} {src : Operand} {k : Ctl} {d : Dest}
    {j : Jump} (h : i.view = .c u src k d j) : compFunction i = alu k := by
  cases i
  case aInstr => cases h
  case compZero | compOne | compNegOne | compD | compA | compM | compNotD | compNotA | compNotM
      | compNegD | compNegA | compNegM | compDPlus1 | compAPlus1 | compMPlus1 | compDMinus1
      | compAMinus1 | compMMinus1 | compDPlusA | compDPlusM | compDMinusA | compDMinusM
      | compAMinusD | compMMinusD | compDAndA | compDAndM | compDOrA | compDOrM =>
    cases h
    funext x y
    rw [alu_eq_closedForm, compFunction, closedForm]
  all_goals
    cases h
    rfl

/-- The meaning of a decoded view under any parameters (40_execution_cycle.md R100). -/
def execView (p : Params) (v : View) (s : State) : Host.Outcome State Fault Refusal :=
  match v with
  | .a value => execAInstr value s
  | .c _ src k dest jump => compute p src (aluResult p src k) dest jump s

theorem aluResult_params (src : Operand) (k : Ctl) : aluResult params src k = alu k :=
  funext₂ fun x y => ite_self (alu k x y)

theorem exec_eq_execView (i : Instr) (s : State) : exec i s = execView params i.view s := by
  rcases exec_shape i s with ⟨v, -, view, e⟩ | ⟨u, src, k, dest, jump, view, e⟩
  · rw [e, view, execView]
  · rw [e, view, execView, aluResult_params, compFunction_eq_alu view]

theorem exec_of_view_c {i : Instr} {u : BitVec 2} {src : Operand} {k : Ctl} {dest : Dest}
    {jump : Jump} (h : i.view = .c u src k dest jump) (s : State) :
    exec i s = compute params src (alu k) dest jump s := by
  rw [exec_eq_execView, h, execView, aluResult_params]

theorem execView_c_u (p : Params) (u u' : BitVec 2) (src : Operand) (k : Ctl) (dest : Dest)
    (jump : Jump) (s : State) :
    execView p (.c u src k dest jump) s = execView p (.c u' src k dest jump) s := rfl

theorem getLsbD_eq_of_extract {w w' : Word} {len n : Nat}
    (h : w.extractLsb' 0 len = w'.extractLsb' 0 len) (hn : n < len) :
    w.getLsbD n = w'.getLsbD n := by
  have := congrArg (·.getLsbD n) h
  simpa [BitVec.getLsbD_extractLsb', hn, -BitVec.getLsbD_eq_getElem] using this

/-- Settles O5: the views of the two words differ in `u` only, which no meaning reads. -/
theorem unusedBitsNeverAffectExecution : Obligations.UnusedBitsNeverAffectExecution := by
  intro w w' is_c is_c' same s
  have bit : ∀ n < 13, w.getLsbD n = w'.getLsbD n := fun n hn => getLsbD_eq_of_extract same hn
  rw [exec_eq_execView, exec_eq_execView, view_decode, view_decode, viewOfWord_of_bit15_set is_c,
    viewOfWord_of_bit15_set is_c']
  simp only [bit, Nat.reduceLT]
  exact execView_c_u _ _ _ _ _ _ _ _

/-! ### Completion and faults of a C-instruction -/

section

variable {src : Operand} {dest : Dest} {s : State}

theorem operandY_mapped (h : src = .m → Mapped s.a.toNat) : ∃ y, operandY src s = .ok y := by
  cases src with
  | a => exact ⟨s.a, rfl⟩
  | m => exact memRead_mapped (h rfl) s

theorem operandIs_of_operandY {y : Word} (h : operandY src s = .ok y) : OperandIs src s y := by
  cases src with
  | a => cases h; rfl
  | m => exact peek_eq_some.mpr h

theorem storeM_mapped (h : dest.m = true → Mapped s.a.toNat) (out : Word) :
    ∃ t, storeM dest out s = .ok t := by
  cases hm : dest.m with
  | false => exact ⟨s, storeM_of_not hm out s⟩
  | true => rw [storeM_of hm]; exact memWrite_mapped (h hm) out s

end

section

variable (p : Params) {src : Operand} (f : Word → Word → Word) {dest : Dest} (jump : Jump)
  {s : State}

theorem compute_of_ok {y : Word} {m : State} (read : operandY src s = .ok y)
    (stored : storeM dest (f s.d y) s = .ok m) :
    compute p src f dest jump s = .next { m with
      a := nextA dest (f s.d y) s
      d := nextD dest (f s.d y) s
      pc := nextPc p dest jump (f s.d y) s } := by
  simp only [compute, read, writeBack, operandX, stored]

theorem compute_read_fault (read : src = .m) (unmapped : ¬ Mapped s.a.toNat) :
    compute p src f dest jump s = .fault (.readOutOfRange s.a.toNat) := by
  subst read
  simp only [compute, operandY_m, memRead_not_mapped unmapped]

theorem compute_write_fault (no_read : src = .a) (stores : dest.m = true)
    (unmapped : ¬ Mapped s.a.toNat) :
    compute p src f dest jump s = .fault (.writeOutOfRange s.a.toNat) := by
  subst no_read
  simp only [compute, operandY_a, writeBack, storeM_of stores, memWrite_not_mapped unmapped]

theorem compute_completes (mapped : src = .m ∨ dest.m = true → Mapped s.a.toNat) :
    ∃ y m, operandY src s = .ok y ∧ storeM dest (f s.d y) s = .ok m ∧
      compute p src f dest jump s = .next { m with
        a := nextA dest (f s.d y) s
        d := nextD dest (f s.d y) s
        pc := nextPc p dest jump (f s.d y) s } := by
  obtain ⟨y, read⟩ := operandY_mapped fun reads => mapped (.inl reads)
  obtain ⟨m, stored⟩ := storeM_mapped (fun stores => mapped (.inr stores)) (f s.d y)
  exact ⟨y, m, read, stored, compute_of_ok p f jump read stored⟩

/-- A C-instruction faults exactly where it accesses an unmapped A, the read before the write
(60_exceptions.md R212, R214). -/
theorem compute_fault_iff (r : Fault) : compute p src f dest jump s = .fault r ↔
    ¬ Mapped s.a.toNat ∧ (src = .m ∧ r = .readOutOfRange s.a.toNat ∨
      src = .a ∧ dest.m = true ∧ r = .writeOutOfRange s.a.toNat) := by
  constructor
  · intro h
    have accesses : ¬ (src = .m ∨ dest.m = true → Mapped s.a.toNat) := fun mapped => by
      obtain ⟨y, m, -, -, e⟩ := compute_completes p f jump mapped
      rw [e] at h
      cases h
    obtain ⟨access, unmapped⟩ := Classical.not_imp.mp accesses
    refine ⟨unmapped, ?_⟩
    cases src with
    | m =>
      rw [compute_read_fault p f jump rfl unmapped] at h
      cases h
      exact .inl ⟨rfl, rfl⟩
    | a =>
      have stores : dest.m = true := access.resolve_left nofun
      rw [compute_write_fault p f jump rfl stores unmapped] at h
      cases h
      exact .inr ⟨rfl, stores, rfl⟩
  · rintro ⟨unmapped, ⟨read, rfl⟩ | ⟨no_read, stores, rfl⟩⟩
    · exact compute_read_fault p f jump read unmapped
    · exact compute_write_fault p f jump no_read stores unmapped

end

/-- Settles O38: the faults of an instruction are those of its view. -/
theorem faultsAreExactlyTheListedOnes : Obligations.FaultsAreExactlyTheListedOnes := by
  intro i s r
  cases view : i.view with
  | a v =>
    have never : exec i s ≠ .fault r := by simp [exec_eq_execView, view, execView, execAInstr]
    exact iff_of_false never (by simp)
  | c u src k dest jump =>
    rw [exec_of_view_c view, compute_fault_iff]
    constructor
    · exact fun h => ⟨u, src, k, dest, jump, rfl, h⟩
    · rintro ⟨_, _, _, _, _, same, h⟩
      cases same
      exact h

theorem compute_registers (f : Word → Word → Word) {dest : Dest} (no_store : dest.m = false)
    (jump : Jump) (s : State) :
    compute params .a f dest jump s = .next { s with
      a := nextA dest (f s.d s.a) s
      d := nextD dest (f s.d s.a) s
      pc := nextPc params dest jump (f s.d s.a) s } :=
  compute_of_ok params f jump (operandY_a s) (storeM_of_not no_store _ s)

/-- Settles O39: without a read or a store of M, the next registers are functions of A, D and PC. -/
theorem registerInstructionsIgnoreTheDataMemory :
    Obligations.RegisterInstructionsIgnoreTheDataMemory := by
  intro i s s' no_access ha hd hpc
  cases view : i.view with
  | a v =>
    rw [exec_eq_execView, exec_eq_execView, view]
    exact ⟨v, s.d, s.pc + 1, rfl, by rw [execView, execAInstr, hd, hpc]⟩
  | c u src k dest jump =>
    obtain ⟨rfl, no_store⟩ := no_access u src k dest jump view
    rw [exec_of_view_c view, exec_of_view_c view, compute_registers _ no_store,
      compute_registers _ no_store]
    exact ⟨_, _, _, rfl, by simp only [nextA, nextD, nextPc, ha, hd, hpc]⟩

end Sys2Proof.Laws
end

section
/-! PROOFS of the family 'other', the rules of the comps: the jump conditions, and the rule of each
comp from its view and the closed form of its code (42_c_alu.md, 43_c_dest_jump.md). -/

namespace Sys2Proof.Laws

open Sys2Proof.Machine

/-! ### Jumps (43_c_dest_jump.md R185 to R192) -/

theorem toInt_eq_zero_iff (out : Word) : out.toInt = 0 ↔ out = 0 := by
  rw [← BitVec.toInt_inj]
  rfl

theorem take_iff_jumpHolds (j : Jump) (out : Word) : take j out = true ↔ JumpHolds j out := by
  cases j <;> simp only [take, JumpHolds, Bool.and_eq_true, Bool.or_eq_true, Bool.not_eq_true',
    ← Bool.not_eq_true, zr_iff, ng_iff_toInt_neg, ne_eq, reduceCtorEq]
  case jgt => rw [← toInt_eq_zero_iff]; omega
  case jge => omega
  case jle => rw [← toInt_eq_zero_iff]; omega

/-- The bits of a selector never name more than one of the three classes of R132. -/
theorem takeBits_eq_take (j : Jump) (out : Word) : takeBits j.lt j.eq j.gt out = take j out := by
  have exclusive := not_zr_and_ng out
  cases hz : zr out <;> cases hn : ng out
  case true.true => exact absurd ⟨hz, hn⟩ exclusive
  all_goals cases j <;> simp [takeBits, take, Jump.lt, Jump.eq, Jump.gt, hz, hn]

/-- Settles O24: the conditions, the selector bits, and the place of the field. -/
theorem jumpConditionsReadTheResultAsSigned : Obligations.JumpConditionsReadTheResultAsSigned :=
  ⟨fun j out => ⟨take_iff_jumpHolds j out, takeBits_eq_take j out⟩,
    fun _ _ _ _ _ _ view => encode_jumpField view⟩

/-! ### The rule of a comp -/

theorem memRead_of_storeM {dest : Dest} {out : Word} {s m : State}
    (stored : storeM dest out s = .ok m) {k : Nat} (other : dest.m = true → k ≠ s.a.toNat) :
    memRead k m = memRead k s := by
  cases hm : dest.m with
  | false =>
    rw [storeM_of_not hm] at stored
    cases stored
    rfl
  | true =>
    rw [storeM_of hm] at stored
    exact memRead_memWrite_ne (other hm) stored

/-- The state `compute` leaves is `s` with the destinations and the jump done. -/
theorem commitsOut_of_storeM {dest : Dest} {jump : Jump} {out : Word} {s m : State} (wf : s.WF)
    (stored : storeM dest out s = .ok m) :
    CommitsOut dest jump out s { m with
      a := nextA dest out s
      d := nextD dest out s
      pc := nextPc params dest jump out s } where
  a := rfl
  d := rfl
  jumps h := (nextPc_params ..).trans (if_pos ((take_iff_jumpHolds jump out).mpr h))
  falls h := (nextPc_params ..).trans (if_neg (mt (take_iff_jumpHolds jump out).mp h))
  stores hm hk := by
    rw [storeM_of hm] at stored
    have read_back := memRead_memWrite_self ((wf_iff s).mp wf).1 hk stored
    exact peek_eq_some.mpr read_back
  keeps k hk := by
    have same : memRead k m = memRead k s := memRead_of_storeM stored hk
    exact congrArg Except.toOption same
  keepsKbd := by obtain ⟨-, -, -, kbd, -, -⟩ := storeM_ok stored; exact kbd
  keepsRom := by obtain ⟨-, -, -, -, rom, -⟩ := storeM_ok stored; exact rom
  keepsMark := by obtain ⟨-, -, -, -, -, mark⟩ := storeM_ok stored; exact mark

/-- A comp's rule from its decoded view, its bit pattern and the closed form of its code. -/
theorem compRule_of_view {i : BitVec 2 → Dest → Jump → Instr} {src : Operand} {k : Ctl}
    (view : ∀ u d j, (i u d j).view = .c u src k d j) {comp : BitVec 7}
    (pattern : comp = compField src k) {f : Word → Word → Word} (closed : f = closedForm k) :
    CompRule i src comp f := by
  subst pattern closed
  intro u dest jump
  refine ⟨?_, fun s wf => ?_⟩
  · rw [encode_of_view (view u dest jump), wordOfView_c_eq_cWord]
  rw [exec_of_view_c (view u dest jump)]
  refine ⟨fun mapped => ?_, compute_read_fault _ _ _, compute_write_fault _ _ _⟩
  obtain ⟨y, m, read, stored, e⟩ := compute_completes params (alu k) jump mapped
  refine ⟨y, _, operandIs_of_operandY read, e, ?_⟩
  rw [alu_eq_closedForm] at stored ⊢
  exact commitsOut_of_storeM wf stored

/-- Settles O12: 0, 1 and -1. -/
theorem constantCompsPutAConstant : Obligations.ConstantCompsPutAConstant := by
  unfold Obligations.ConstantCompsPutAConstant
  and_intros
  all_goals refine compRule_of_view (fun _ _ _ => rfl) ?_ ?_ <;> rfl

/-- Settles O13: D, !D, -D, D+1, D-1. -/
theorem dataRegisterCompsReadOnlyD : Obligations.DataRegisterCompsReadOnlyD := by
  unfold Obligations.DataRegisterCompsReadOnlyD
  and_intros
  all_goals refine compRule_of_view (fun _ _ _ => rfl) ?_ ?_ <;> rfl

/-- Settles O14: A, !A, -A, A+1, A-1. -/
theorem addressRegisterCompsReadA : Obligations.AddressRegisterCompsReadA := by
  unfold Obligations.AddressRegisterCompsReadA
  and_intros
  all_goals refine compRule_of_view (fun _ _ _ => rfl) ?_ ?_ <;> rfl

/-- Settles O15: M, !M, -M, M+1, M-1. -/
theorem memoryCompsReadTheWordAtA : Obligations.MemoryCompsReadTheWordAtA := by
  unfold Obligations.MemoryCompsReadTheWordAtA
  and_intros
  all_goals refine compRule_of_view (fun _ _ _ => rfl) ?_ ?_ <;> rfl

/-- Settles O16: D+A, D-A, A-D, D&A, D|A. -/
theorem binaryCompsOfDAndA : Obligations.BinaryCompsOfDAndA := by
  unfold Obligations.BinaryCompsOfDAndA
  and_intros
  all_goals refine compRule_of_view (fun _ _ _ => rfl) ?_ ?_ <;> rfl

/-- Settles O17: D+M, D-M, M-D, D&M, D|M. -/
theorem binaryCompsOfDAndM : Obligations.BinaryCompsOfDAndM := by
  unfold Obligations.BinaryCompsOfDAndM
  and_intros
  all_goals refine compRule_of_view (fun _ _ _ => rfl) ?_ ?_ <;> rfl

/-- Settles O18: the `a` = 1 spellings of the operand-free codes. -/
theorem operandFreeSpellingsStillReadM : Obligations.OperandFreeSpellingsStillReadM := by
  unfold Obligations.OperandFreeSpellingsStillReadM
  and_intros
  all_goals refine compRule_of_view (fun _ _ _ => rfl) ?_ ?_ <;> rfl

/-- Settles O19: the codes of the R162 table with `a` = 0. -/
theorem noncanonicalCompsOnA : Obligations.NoncanonicalCompsOnA := by
  unfold Obligations.NoncanonicalCompsOnA
  and_intros
  all_goals refine compRule_of_view (fun _ _ _ => rfl) ?_ ?_ <;> rfl

/-- Settles O20: the codes of the R162 table with `a` = 1. -/
theorem noncanonicalCompsOnM : Obligations.NoncanonicalCompsOnM := by
  unfold Obligations.NoncanonicalCompsOnM
  and_intros
  all_goals refine compRule_of_view (fun _ _ _ => rfl) ?_ ?_ <;> rfl

/-- Settles O21: the 18 rows are rows of the closed forms, and the list is the definition's own. -/
theorem formulaGivesTheCanonicalFunctions : Obligations.FormulaGivesTheCanonicalFunctions := by
  refine ⟨fun x y => ?_, rfl, rfl, by decide⟩
  and_intros
  all_goals exact alu_eq_closedForm _ x y

end Sys2Proof.Laws
end

section
/-! PROOFS of the family 'other', wrapping arithmetic (42_c_alu.md R163). -/

namespace Sys2Proof.Laws

open Sys2Proof.Machine

/-- `g` on integers is `f` on words modulo 2^16, from either reading of the operands. -/
def ExactModWord (f : Word → Word → Word) (g : Int → Int → Int) : Prop :=
  ∀ x y : Word, BitVec.ofInt 16 (g x.toInt y.toInt) = f x y ∧
    BitVec.ofInt 16 (g x.toNat y.toNat) = f x y

theorem exactModWord_fst : ExactModWord (fun x _ => x) (fun x _ => x) := fun x _ =>
  ⟨BitVec.ofInt_toInt, by simp⟩

theorem exactModWord_snd : ExactModWord (fun _ y => y) (fun _ y => y) := fun _ y =>
  ⟨BitVec.ofInt_toInt, by simp⟩

theorem exactModWord_one : ExactModWord (fun _ _ => 1) (fun _ _ => 1) := fun _ _ => ⟨rfl, rfl⟩

section

variable {f f' : Word → Word → Word} {g g' : Int → Int → Int}

theorem ExactModWord.add (h : ExactModWord f g) (h' : ExactModWord f' g') :
    ExactModWord (fun x y => f x y + f' x y) (fun x y => g x y + g' x y) := fun x y => by
  simp only [BitVec.ofInt_add, h x y, h' x y, and_self]

theorem ExactModWord.neg (h : ExactModWord f g) :
    ExactModWord (fun x y => 0 - f x y) (fun x y => -g x y) := fun x y => by
  simp only [BitVec.ofInt_neg, h x y, zero_sub, and_self]

theorem ExactModWord.sub (h : ExactModWord f g) (h' : ExactModWord f' g') :
    ExactModWord (fun x y => f x y - f' x y) (fun x y => g x y - g' x y) := fun x y => by
  simp only [Int.sub_eq_add_neg, BitVec.ofInt_add, BitVec.ofInt_neg, BitVec.sub_eq_add_neg,
    h x y, h' x y, and_self]

end

/-- The forms O22 is about, with D as the only destination and no jump. -/
theorem exec_to_d {i : Instr} {u : BitVec 2} {src : Operand} {k : Ctl}
    (view : i.view = .c u src k ⟨false, true, false⟩ .never) {s : State} {y : Word}
    (read : operandY src s = .ok y) :
    exec i s = .next { s with d := closedForm k s.d y, pc := s.pc + 1 } := by
  rw [exec_of_view_c view, compute_of_ok params _ _ read (storeM_of_not rfl _ s),
    alu_eq_closedForm]
  rfl

theorem wraps_of_exact {i : BitVec 2 → Dest → Jump → Instr} {k : Ctl}
    (view : ∀ u d j, (i u d j).view = .c u .a k d j) {g : Int → Int → Int}
    (modular : ExactModWord (closedForm k) g) : Wraps i g := by
  intro u s
  obtain ⟨signed, unsigned⟩ := modular s.d s.a
  rw [signed, unsigned]
  exact ⟨exec_to_d (view ..) (operandY_a s), rfl⟩

theorem wrapsM_of_exact {i : BitVec 2 → Dest → Jump → Instr} {k : Ctl}
    (view : ∀ u d j, (i u d j).view = .c u .m k d j) {g : Int → Int → Int}
    (modular : ExactModWord (closedForm k) g) : WrapsM i g := by
  intro u s m read
  obtain ⟨signed, unsigned⟩ := modular s.d m
  rw [signed, unsigned]
  exact ⟨exec_to_d (view ..) (peek_eq_some.mp read), rfl⟩

/-- Settles O22: each result is a sum, a difference or a negation of D, the other operand and 1. -/
theorem arithmeticWrapsSilently : Obligations.ArithmeticWrapsSilently := by
  refine ⟨wraps_of_exact (fun _ _ _ => rfl) ?_, wraps_of_exact (fun _ _ _ => rfl) ?_,
    wraps_of_exact (fun _ _ _ => rfl) ?_, wraps_of_exact (fun _ _ _ => rfl) ?_,
    wraps_of_exact (fun _ _ _ => rfl) ?_, wraps_of_exact (fun _ _ _ => rfl) ?_,
    wraps_of_exact (fun _ _ _ => rfl) ?_, wraps_of_exact (fun _ _ _ => rfl) ?_,
    wraps_of_exact (fun _ _ _ => rfl) ?_, wrapsM_of_exact (fun _ _ _ => rfl) ?_,
    wrapsM_of_exact (fun _ _ _ => rfl) ?_, wrapsM_of_exact (fun _ _ _ => rfl) ?_,
    wrapsM_of_exact (fun _ _ _ => rfl) ?_, wrapsM_of_exact (fun _ _ _ => rfl) ?_,
    wrapsM_of_exact (fun _ _ _ => rfl) ?_⟩
  exacts [exactModWord_fst.neg, exactModWord_fst.add exactModWord_one,
    exactModWord_fst.sub exactModWord_one, exactModWord_snd.neg,
    exactModWord_snd.add exactModWord_one, exactModWord_snd.sub exactModWord_one,
    exactModWord_fst.add exactModWord_snd, exactModWord_fst.sub exactModWord_snd,
    exactModWord_snd.sub exactModWord_fst, exactModWord_snd.neg,
    exactModWord_snd.add exactModWord_one, exactModWord_snd.sub exactModWord_one,
    exactModWord_fst.add exactModWord_snd, exactModWord_fst.sub exactModWord_snd,
    exactModWord_snd.sub exactModWord_fst]

end Sys2Proof.Laws
end

section
/-! PROOFS of the family 'other', the execution cycle and the halt report: the step written out in
one piece is the step of decoded views, reported (40_execution_cycle.md section 1), and what a
report of `halted` means (R105). -/

namespace Sys2Proof.Laws

open Sys2Proof.Machine

/-! ### The execution cycle as a step with a report -/

/-- `step` under any parameters, on the decoded view. -/
def stepWith (p : Params) (s : State) : Host.Outcome State Fault Refusal :=
  match s.fault with
  | some r => .fault r
  | none =>
    match romRead s.pc s with
    | .error r => .fault r
    | .ok w => execView p (viewOfWord w) s

/-- `cpuStep`'s report of an outcome, under any parameters. -/
def report (p : Params) (s : State) : Host.Outcome State Fault Refusal → StepReport
  | .next t => .stepped t (haltSignal p s (s.rom[s.pc.toNat]?.getD 0) t)
  | .fault r => .faulted (raiseFault r s)
  | .refused _ => .faulted s

theorem stepWith_of_mark (p : Params) {s : State} {r : Fault} (h : s.fault = some r) :
    stepWith p s = .fault r := by
  rw [stepWith, h]

theorem stepWith_of_fetch (p : Params) {s : State} {w : Word} (mark : s.fault = none)
    (fetch : s.rom[s.pc.toNat]? = some w) : stepWith p s = execView p (viewOfWord w) s := by
  rw [stepWith, mark, romRead_ok.mpr fetch]

theorem stepWith_of_fetch_fault (p : Params) {s : State} (mark : s.fault = none)
    (fetch : s.rom[s.pc.toNat]? = none) : stepWith p s = .fault (.fetchOutOfRange s.pc) := by
  rw [stepWith, mark, romRead_error.mpr ⟨List.getElem?_eq_none_iff.mp fetch, rfl⟩]

theorem stepWith_params (s : State) : stepWith params s = step s := by
  cases mark : s.fault with
  | some r => rw [stepWith_of_mark params mark, step_of_mark mark]
  | none =>
    cases fetch : s.rom[s.pc.toNat]? with
    | none =>
      rw [stepWith_of_fetch_fault params mark fetch,
        step_of_fetch_fault mark (List.getElem?_eq_none_iff.mp fetch)]
    | some w =>
      rw [stepWith_of_fetch params mark fetch, step_of_fetch mark fetch, exec_eq_execView,
        view_decode]

theorem cpuStep_eq_report (s : State) : cpuStep s = report params s (step s) := rfl

/-- The operand read, the jump test, the store and the jump of R100 are those of `compute`. -/
theorem cycle_of_fetch (p : Params) {s : State} {w : Word} (mark : s.fault = none)
    (fetch : s.rom[s.pc.toNat]? = some w) :
    cycle p s = report p s (execView p (viewOfWord w) s) := by
  rw [cycle, if_neg (not_not.mpr mark), romRead_ok.mpr fetch]
  cases view : viewOfWord w with
  | a v => simp only [view, execView, execAInstr, report, fetch, Option.getD_some]
  | c u src k dest jump =>
    have operand : (if src = .m then memRead s.a.toNat s else .ok s.a) = operandY src s := by
      cases src <;> rfl
    simp only [view, execView, compute, operand, takeBits_eq_take]
    cases operandY src s with
    | error r => rfl
    | ok y =>
      simp only [writeBack, operandX]
      change (match storeM dest (aluResult p src k s.d y) s with | .error r => _ | .ok t => _) = _
      cases storeM dest (aluResult p src k s.d y) s with
      | error r => rfl
      | ok t => simp only [report, fetch, Option.getD_some, nextA, nextD, nextPc]

theorem cycle_eq_report (p : Params) (s : State) : cycle p s = report p s (stepWith p s) := by
  cases mark : s.fault with
  | some r =>
    rw [stepWith_of_mark p mark, report, raiseFault_of_mark mark]
    simp only [cycle, mark, ne_eq, reduceCtorEq, not_false_eq_true, if_true]
  | none =>
    cases fetch : s.rom[s.pc.toNat]? with
    | none =>
      rw [stepWith_of_fetch_fault p mark fetch, report]
      have no_word := romRead_error.mpr ⟨List.getElem?_eq_none_iff.mp fetch, rfl⟩
      simp only [cycle, mark, ne_eq, not_true_eq_false, if_false, no_word]
    | some w => rw [stepWith_of_fetch p mark fetch, cycle_of_fetch p mark fetch]

/-- Settles O10: both are the report of the same step. -/
theorem stepIsTheExecutionCycle : Obligations.StepIsTheExecutionCycle := fun s => by
  rw [cycle_eq_report, stepWith_params, cpuStep_eq_report]

/-! ### JUMP_TARGET_SOURCE (43_c_dest_jump.md R193) -/

theorem jumpTarget_ne {src src' : JumpTargetSource} {aOld aNew : Word}
    (h : jumpTarget src aOld aNew ≠ jumpTarget src' aOld aNew) : aNew ≠ aOld := by
  rintro rfl
  cases src <;> cases src' <;> exact h rfl

/-- The parameters reach a C-instruction's outcome through the target of a taken jump alone, and the
targets differ only where A is written with another value. -/
theorem compute_ne {p p' : Params} {src : Operand} {f : Word → Word → Word} {dest : Dest}
    {jump : Jump} {s : State} (h : compute p src f dest jump s ≠ compute p' src f dest jump s) :
    ∃ y, OperandIs src s y ∧ dest.a = true ∧ JumpHolds jump (f s.d y) ∧ f s.d y ≠ s.a := by
  cases read : operandY src s with
  | error r => exact absurd (by simp only [compute, read]) h
  | ok y =>
    refine ⟨y, operandIs_of_operandY read, ?_⟩
    cases stored : storeM dest (f s.d y) s with
    | error r => exact absurd (by simp only [compute, read, writeBack, operandX, stored]) h
    | ok m =>
      rw [compute_of_ok p f jump read stored, compute_of_ok p' f jump read stored] at h
      have pc_ne : nextPc p dest jump (f s.d y) s ≠ nextPc p' dest jump (f s.d y) s :=
        fun same => h (by rw [same])
      by_cases taken : take jump (f s.d y) = true
      · simp only [nextPc, if_pos taken] at pc_ne
        have a_written := jumpTarget_ne pc_ne
        unfold nextA at a_written
        split at a_written
        · rename_i writes_a
          exact ⟨writes_a, (take_iff_jumpHolds _ _).mp taken, a_written⟩
        · exact absurd rfl a_written
      · simp only [nextPc, if_neg taken, ne_eq, not_true_eq_false] at pc_ne

theorem report_jumpTargetSource (p : Params) (source : JumpTargetSource) (s : State)
    (o : Host.Outcome State Fault Refusal) :
    report { p with jumpTargetSource := source } s o = report p s o := by
  cases o <;> rfl

/-- Settles O26: without a word at PC, or at an A-instruction, no parameter is read. -/
theorem jumpTargetSourceMattersOnlyWhenAIsWritten :
    Obligations.JumpTargetSourceMattersOnlyWhenAIsWritten := by
  intro p s differs
  rw [cycle_eq_report, cycle_eq_report, report_jumpTargetSource p .preA,
    report_jumpTargetSource p .postA] at differs
  replace differs := ne_of_apply_ne _ differs
  cases mark : s.fault with
  | some r => exact absurd (by rw [stepWith_of_mark _ mark, stepWith_of_mark _ mark]) differs
  | none =>
    cases fetch : s.rom[s.pc.toNat]? with
    | none =>
      rw [stepWith_of_fetch_fault _ mark fetch, stepWith_of_fetch_fault _ mark fetch] at differs
      exact absurd rfl differs
    | some w =>
      rw [stepWith_of_fetch _ mark fetch, stepWith_of_fetch _ mark fetch] at differs
      cases view : viewOfWord w with
      | a v =>
        rw [view] at differs
        exact absurd rfl differs
      | c u src k dest jump =>
        rw [view] at differs
        obtain ⟨y, operand, writes_a, jumps, out_ne⟩ := compute_ne differs
        exact ⟨w, u, src, k, dest, jump, y, rfl, view, operand, writes_a, jumps, out_ne⟩

/-! ### The halt report (R105) -/

/-- HALT_IDIOM is not read by the step, only by its report. -/
theorem stepWith_haltIdiom (p : Params) (b : Bool) (s : State) :
    stepWith { p with haltIdiom := b } s = stepWith p s := rfl

theorem haltSignal_haltIdiom {p : Params} {s t : State} {w : Word}
    (h : haltSignal { p with haltIdiom := false } s w t = true) :
    haltSignal { p with haltIdiom := true } s w t = true := by
  simp only [haltSignal, Bool.and_eq_true, Bool.or_eq_true, Bool.false_and, Bool.false_eq_true,
    or_false] at h ⊢
  exact ⟨h.1, .inl h.2⟩

/-- Settles O47: the step is the same, and its report says halted at least as often. -/
theorem haltIdiomChangesOnlyTheReport : Obligations.HaltIdiomChangesOnlyTheReport := by
  intro p s
  rw [cycle_eq_report, cycle_eq_report, stepWith_haltIdiom p false,
    stepWith_haltIdiom p true]
  cases stepWith p s with
  | next t =>
    refine ⟨fun t' halted h => ?_, fun _ h => (nomatch h)⟩
    cases h
    exact ⟨_, rfl, haltSignal_haltIdiom⟩
  | fault r => exact ⟨fun _ _ h => (nomatch h), fun _ h => h⟩
  | refused r => exact ⟨fun _ _ h => (nomatch h), fun _ h => h⟩

/-- HALT_IDIOM is false (log entry 8). -/
theorem haltSignal_params (s t : State) (w : Word) :
    haltSignal params s w t = true ↔ unconditionalJump w = true ∧ t.pc = s.pc := by
  simp [haltSignal, params]

theorem unconditionalJump_encode {i : Instr} {u : BitVec 2} {src : Operand} {k : Ctl} {d : Dest}
    {j : Jump} (h : i.view = .c u src k d j) :
    unconditionalJump (encode i) = true ↔ j = .jmp := by
  rw [unconditionalJump, encode_jumpField h, encode_of_view h, wordOfView_c_bit15]
  cases j <;> decide

theorem unconditionalJump_iff (w : Word) : unconditionalJump w = true ↔
    ∃ i u src k dest, w = encode i ∧ i.view = .c u src k dest .jmp := by
  constructor
  · intro h
    cases view : (decode w).view with
    | a v =>
      rw [← encode_decode w, unconditionalJump, encode_of_view view, wordOfView_a_bit15] at h
      cases h
    | c u src k dest jump =>
      rw [← encode_decode w, unconditionalJump_encode view] at h
      subst h
      exact ⟨decode w, u, src, k, dest, (encode_decode w).symm, view⟩
  · rintro ⟨i, u, src, k, dest, rfl, view⟩
    exact (unconditionalJump_encode view).mpr rfl

/-- Settles O46: the report is of an unconditional jump that left PC as it was. -/
theorem haltedIsReportedOnASelfJumpOnly : Obligations.HaltedIsReportedOnASelfJumpOnly := by
  intro s t halted h
  obtain ⟨next, rfl⟩ := cpuStep_stepped h
  obtain ⟨-, w, fetch, -⟩ := step_next next
  simp only [fetch, Option.getD_some, Option.some.injEq, haltSignal_params, unconditionalJump_iff]
  constructor
  · rintro ⟨⟨i, u, src, k, dest, word, view⟩, stays⟩
    exact ⟨i, u, src, k, dest, word, view, stays⟩
  · rintro ⟨i, u, src, k, dest, word, view, stays⟩
    exact ⟨⟨i, u, src, k, dest, word, view⟩, stays⟩

/-- Settles O48: the jump goes to A, which is PC, and no destination is written. -/
theorem selfJumpKeepsExecuting : Obligations.SelfJumpKeepsExecuting := by
  intro s u mark self fetch
  have view : (Instr.compZero u ⟨false, false, false⟩ .jmp).view =
      .c u .a ⟨true, false, true, false, true, false⟩ ⟨false, false, false⟩ .jmp := rfl
  have stays : step s = .next s := by
    rw [step_of_fetch mark fetch, decode_encode rfl, exec_of_view_c view,
      compute_registers _ rfl, nextPc_params]
    exact congrArg (fun pc => Host.Outcome.next { s with pc := pc }) self
  have reports : cpuStep s = .stepped s true := by
    rw [cpuStep_of_next stays, fetch, Option.getD_some,
      (haltSignal_params ..).mpr ⟨(unconditionalJump_encode view).mpr rfl, rfl⟩]
  exact ⟨stays, reports, fun bps n => runBy_halts reports rfl n⟩

/-! ### Lines and instructions (30_encoding.md R87) -/

theorem map_decode_emitted (lines : List SourceLine)
    (wf : ∀ l ∈ lines, ∀ i, l.instr? = some i → i.wellFormed = true) :
    (emitted lines).map decode = lines.filterMap SourceLine.instr? := by
  induction lines with
  | nil => rfl
  | cons l lines ih =>
    obtain ⟨head, tail⟩ := List.forall_mem_cons.mp wf
    cases l with
    | instruction i =>
      rw [emitted_instruction, List.map_cons, decode_encode (head i rfl), ih tail]
      rfl
    | label name =>
      rw [emitted_label, ih tail]
      rfl

/-- The state with one instruction at PC 0, and A at 1: mapped, and no jump target that is PC. -/
def startOf (i : Instr) : State := { State.loaded [encode i] with a := 1 }

theorem exec_completes (i : Instr) {s : State} (mapped : Mapped s.a.toNat) :
    ∃ t, exec i s = .next t := by
  cases view : i.view with
  | a v => exact ⟨_, by rw [exec_eq_execView, view]; rfl⟩
  | c u src k dest jump =>
    obtain ⟨_, _, -, -, e⟩ := compute_completes params (alu k) jump (fun _ => mapped)
    exact ⟨_, (exec_of_view_c view s).trans e⟩

theorem cpuStep_startOf {i : Instr} (wf : i.wellFormed = true) :
    ∃ t, cpuStep (startOf i) = .stepped t false := by
  obtain ⟨t, executed⟩ := exec_completes i (s := startOf i) (show 1 ≤ 24576 by decide)
  have next : step (startOf i) = .next t := by
    rw [step_of_fetch (w := encode i) rfl rfl, decode_encode wf, executed]
  have pc : t.pc = 1 := by
    rcases controlGoesOnOrToTheOldA i _ t executed with pc | ⟨_, _, _, _, _, -, -, pc⟩ <;> exact pc
  refine ⟨t, (cpuStep_of_next next).trans (congrArg _ (Bool.eq_false_iff.mpr fun halted => ?_))⟩
  have stays : t.pc = 0 := ((haltSignal_params ..).mp halted).2
  rw [pc] at stays
  cases stays

/-- Settles O52: a word and its instruction determine each other, and each instruction runs from the
state that holds it at PC 0 to PC 1. -/
theorem noPseudoInstructionAndNoHaltInstruction :
    Obligations.NoPseudoInstructionAndNoHaltInstruction := by
  refine ⟨map_decode_emitted, fun w => ?_, fun i wf => ?_⟩
  · refine ⟨decode w, ⟨decode_wellFormed w, encode_decode w⟩, ?_⟩
    rintro i wf rfl
    exact (decode_encode wf).symm
  · obtain ⟨t, steps⟩ := cpuStep_startOf wf
    exact ⟨startOf i, t, loaded_wf (ws := [encode i]) (by simp [romMax]), rfl, steps⟩

end Sys2Proof.Laws
end

section
/-! PROOFS of the family 'other', runs (60_exceptions.md R227): two runs in a row are one, and which
step halts a run. -/

namespace Sys2Proof.Laws

open Sys2Proof.Machine

theorem runBy_add (f : State → StepReport) (bps : List Breakpoint) (m n : Nat) (s : State) :
    runBy f bps (m + n) s =
      if (runBy f bps m s).2 = .notHalted then runBy f bps n (runBy f bps m s).1
      else runBy f bps m s := by
  induction m generalizing s with
  | zero => rw [Nat.zero_add, runBy_zero, if_pos rfl]
  | succ m ih =>
    rw [Nat.succ_add]
    cases report : f s with
    | faulted t => rw [runBy_faulted report, runBy_faulted report, if_neg nofun]
    | stepped t halted =>
      cases stop : halted || bpMatch bps t with
      | true => rw [runBy_halts report stop, runBy_halts report stop, if_neg nofun]
      | false => rw [runBy_continues report stop, runBy_continues report stop, ih]

/-- Settles O44, by induction on the first budget. -/
theorem repeatedRunsComposeIntoOne : Obligations.RepeatedRunsComposeIntoOne :=
  runBy_add cpuStep

theorem stops_iff (bps : List Breakpoint) (t : State) (halted : Bool) :
    (halted || bpMatch bps t) = true ↔
      halted = true ∨ ∃ b ∈ bps, b.var.value t = some b.target := by
  simp [bpMatch]

/-- The step that halts a run is its first, or the halting step of the run that goes on after it. -/
theorem runBy_halted_iff (f : State → StepReport) (bps : List Breakpoint) (n : Nat)
    (s t : State) : runBy f bps n s = (t, .halted) ↔
      ∃ m u halted, m < n ∧ runBy f bps m s = (u, .notHalted) ∧ f u = .stepped t halted ∧
        (halted || bpMatch bps t) = true := by
  constructor
  · intro h
    induction n generalizing s with
    | zero => cases h
    | succ n ih =>
      cases report : f s with
      | faulted u => rw [runBy_faulted report] at h; cases h
      | stepped u halted =>
        cases stop : halted || bpMatch bps u with
        | true =>
          rw [runBy_halts report stop] at h
          cases h
          exact ⟨0, s, halted, Nat.succ_pos n, rfl, report, stop⟩
        | false =>
          rw [runBy_continues report stop] at h
          obtain ⟨m, v, halted', hm, before, last, stops⟩ := ih u h
          exact ⟨m + 1, v, halted', Nat.succ_lt_succ hm,
            (runBy_continues report stop m).trans before, last, stops⟩
  · rintro ⟨m, u, halted, hm, before, last, stops⟩
    obtain ⟨k, rfl⟩ := Nat.exists_eq_add_of_lt hm
    rw [Nat.add_assoc, runBy_add, before, if_pos rfl, runBy_halts last stops]

/-- Settles O45: the halting step is at the end of a run that has not halted. -/
theorem runHaltsOnlyAfterAReportOrAMatch : Obligations.RunHaltsOnlyAfterAReportOrAMatch := by
  intro bps n s t
  simp only [← stops_iff]
  exact runBy_halted_iff cpuStep bps n s t

end Sys2Proof.Laws
end

section
/-! PROOFS of the family 'other', the raw-binary formats (70_reset_and_hazards.md R253): each reader
takes one word off the contents at a time. -/

namespace Sys2Proof.Laws

open Sys2Proof.Machine

theorem bytes_append (w : Word) : w.extractLsb' 8 8 ++ w.extractLsb' 0 8 = w :=
  BitVec.extractLsb'_append_extractLsb'

theorem wordsOfBigEndian_word (w : Word) (rest : List Byte) :
    wordsOfBigEndian (bigEndianOf w ++ rest) = (wordsOfBigEndian rest).map (w :: ·) := by
  simp only [bigEndianOf, List.cons_append, List.nil_append, wordsOfBigEndian, bytes_append]

theorem wordsOfLittleEndian_word (w : Word) (rest : List Byte) :
    wordsOfLittleEndian (littleEndianOf w ++ rest) = (wordsOfLittleEndian rest).map (w :: ·) := by
  simp only [littleEndianOf, List.cons_append, List.nil_append, wordsOfLittleEndian, bytes_append]

/-- A reader that takes the spelling of one word off the contents takes the spellings of all of them
off, and goes on with what follows. -/
theorem read_words {spell : Word → List Byte} {read : List Byte → Except LoadError (List Word)}
    (one : ∀ w rest, read (spell w ++ rest) = (read rest).map (w :: ·)) (ws : List Word)
    (rest : List Byte) : read (ws.flatMap spell ++ rest) = (read rest).map (ws ++ ·) := by
  induction ws with
  | nil => cases h : read rest <;> simp [h, Except.map]
  | cons w ws ih =>
    rw [List.flatMap_cons, List.append_assoc, one, ih]
    cases read rest <;> rfl

/-- The character of a binary digit (R253). -/
def digit (b : Bool) : Byte := if b then 0x31 else 0x30

theorem wordsOfText_digit (b : Bool) (rest : List Byte) (n : Nat) (w : Word) :
    wordsOfText (digit b :: rest) n w =
      wordsOfText rest (n + 1) (w <<< 1 ||| (BitVec.ofBool b).setWidth 16) := by
  cases b <;> simp [digit, wordsOfText]

/-- The bits of `w` from `n + 1` up, and then the digit of bit `n`, are its bits from `n` up. -/
theorem shift_in_next_bit (w : Word) (n : Nat) :
    (w >>> (n + 1)) <<< 1 ||| (BitVec.ofBool (w.getLsbD n)).setWidth 16 = w >>> n := by
  refine BitVec.eq_of_getLsbD_eq fun i hi => ?_
  cases i with
  | zero => simp [-BitVec.getLsbD_eq_getElem]
  | succ i =>
    have place : n + 1 + i = n + (i + 1) := by omega
    simp [-BitVec.getLsbD_eq_getElem, hi, place]

/-- The digits of the low `n` bits of `w`, the high one first, complete the bits above them. -/
theorem wordsOfText_digits (w : Word) (rest : List Byte) {n : Nat} (hn : n ≤ 16) :
    wordsOfText ((List.range n).map (fun i => digit (w.getLsbD (n - 1 - i))) ++ rest) (16 - n)
      (w >>> n) = wordsOfText rest 16 w := by
  induction n with
  | zero => rw [List.range_zero, List.map_nil, List.nil_append, BitVec.ushiftRight_zero]
  | succ n ih =>
    have count : 16 - (n + 1) + 1 = 16 - n := by omega
    rw [List.range_succ_eq_map, List.map_cons, List.map_map, List.cons_append, wordsOfText_digit,
      count, Nat.add_sub_cancel, Nat.sub_zero, shift_in_next_bit, ← ih (by omega)]
    simp only [Function.comp_def, Nat.succ_eq_add_one, Nat.sub_sub, Nat.add_comm 1]

theorem wordsOfText_newline (w : Word) (rest : List Byte) :
    wordsOfText (0x0A :: rest) 16 w = (wordsOfText rest 0 0).map (w :: ·) := rfl

theorem wordsOfText_word (w : Word) (rest : List Byte) :
    wordsOfText (textLineOf w ++ rest) 0 0 = (wordsOfText rest 0 0).map (w :: ·) := by
  have none_read : w >>> 16 = 0 := BitVec.ushiftRight_eq_zero (by decide)
  have digits := wordsOfText_digits w (0x0A :: rest) (n := 16) (by decide)
  rw [none_read, wordsOfText_newline] at digits
  rw [textLineOf, List.append_assoc]
  exact digits

theorem read_all {spell : Word → List Byte} {read : List Byte → Except LoadError (List Word)}
    (one : ∀ w rest, read (spell w ++ rest) = (read rest).map (w :: ·)) (nothing : read [] = .ok [])
    (ws : List Word) : read (ws.flatMap spell) = .ok ws := by
  have all := read_words one ws []
  rw [List.append_nil, nothing] at all
  exact all.trans (congrArg Except.ok (List.append_nil ws))

/-- Settles O43: each reader takes one word off the contents at a time, and what an odd length
leaves is a single byte, which spells no word. -/
theorem rawBinaryFormatsSpellEveryWord : Obligations.RawBinaryFormatsSpellEveryWord :=
  ⟨fun ws => ⟨read_all wordsOfBigEndian_word rfl ws, read_all wordsOfLittleEndian_word rfl ws,
      read_all (read := (wordsOfText · 0 0)) wordsOfText_word rfl ws⟩,
    fun ws b => ⟨read_words wordsOfBigEndian_word ws [b],
      read_words wordsOfLittleEndian_word ws [b]⟩⟩

end Sys2Proof.Laws
end
